-- ==== Sys2Proof/Word.lean ====
section
/-! DEFINITION. The words of the SF-4: the register word of R3, the byte of a lane stream, the 64-bit
quantity of a register pair and the free-running 16-bit count of R2. -/

namespace Sys2Proof

/-- One register word, 32 bits (R3; the conventions' "word"). -/
abbrev Word := BitVec 32

/-- One byte of a frame body, of buffer memory or of host memory. -/
abbrev Byte := BitVec 8

/-- A 64-bit quantity: the reference counter, an address, a register pair (R3). -/
abbrev DWord := BitVec 64

/-- A free-running 16-bit ring count (R2): it wraps from 65535 to 0, and the distance between two
counts is their difference modulo 65536, which is `BitVec` subtraction. -/
abbrev Count := BitVec 16

end Sys2Proof
end

