-- ==== Sys2Proof/Syntax.lean ====
section
/-! DEFINITION. The commands of the SF-4: one constructor of `Instr` for each row of the table of steps
(spec/opcode_table.json), with the operands that say which lane, route, line or register the step is
about and what the outside world brings to it (a data word, a sampled level, a memory's answer). -/

namespace Sys2Proof

/-- The latched 64-bit pairs of R9. -/
inductive LatchedPair where
  | ref
  | syncCap
  | tgTime (line : Fin 4)
deriving DecidableEq, Repr

/-- The four configuration words of a lane (R18 to R20). -/
inductive LaneReg where
  | lctl | lsync | lfmt | lhdr
deriving DecidableEq, Repr

/-- The seven configuration words of a route, RCFG to RRBASE_HI (R88). -/
inductive RouteReg where
  | rcfg | rquota | rpretrig | rbudget | rlinger | rrbaseLo | rrbaseHi
deriving DecidableEq, Repr

/-- The four words of a fence window (R114). -/
inductive WindowReg where
  | maskLo | maskHi | setLo | setHi
deriving DecidableEq, Repr

/-- The two configuration words of a trigger line (R137). -/
inductive TrigReg where
  | tgcfg | tgarg
deriving DecidableEq, Repr

/-- The two words of the completion ring's base (R125). -/
inductive BaseHalf where
  | lo | hi
deriving DecidableEq, Repr

/-- The filtered inputs of R131. -/
inductive Input where
  | sync
  | trig (line : Fin 4)
deriving DecidableEq, Repr

/-- The fields of one descriptor (R109, TABLE 7-1). -/
structure RawDesc where
  /-- Bytes 0-7, ADDRESS. -/
  address : DWord
  /-- Bytes 8-11, LENGTH. -/
  length : Word
  /-- Bytes 12-15, CONTROL: HOST TAG in bits 0-15, INT_REQ in bit 16. -/
  control : Word
deriving DecidableEq, Repr

/-- How a descriptor read ends within its time limit (R15). -/
inductive ReadAnswer where
  /-- Bytes that arrived with successful status, as they stand in host memory from the read's address on. -/
  | data (bytes : List Byte)
  /-- Some part arrived with error status. -/
  | error
deriving DecidableEq, Repr

/-- An edge of LnCLK with the level of LnDAT at it (R29). -/
structure ClockEdge where
  rising : Bool
  level : Bool
deriving DecidableEq, Repr

/-- The steps of the SF-4, one constructor per row of spec/opcode_table.json, in the table's order. -/
inductive Instr where
  /-- R175. -/
  | powerOnReset
  /-- R176: one tick in which the host link reports a reset. -/
  | hostReset
  /-- R177: the DEVCTL write of `data` with RESET = 1. -/
  | deviceReset (data : Word)
  /-- R178. -/
  | resetDone
  /-- R170. -/
  | bootLoadStart
  /-- R169: the operation in progress ends; `data` is the word a read returns. -/
  | storeOperationDone (data : Word)
  /-- R169. -/
  | storeOperationFail
  /-- R4: a host access whose lowest byte is at `offset`, with the byte enables `bytes` of the first word
  touched; `multi` says it spans more than one word; `data` is the data word a write presents. -/
  | accessError (offset : BitVec 12) (write : Bool) (bytes : BitVec 4) (multi : Bool) (data : Word)
  /-- R6: a host write of the word at `offset`. -/
  | registerWrite (offset : BitVec 12) (data : Word)
  /-- R9: a read of the LO word of a latched pair. -/
  | latchedLoRead (pair : LatchedPair)
  /-- R22, R23. -/
  | laneConfigWrite (lane : Fin 4) (reg : LaneReg) (data : Word)
  /-- R24: an LCTL write with ENABLE = 1. -/
  | laneEnable (lane : Fin 4) (data : Word)
  /-- R26: an LCTL write with ENABLE = 0. -/
  | laneDisable (lane : Fin 4) (data : Word)
  /-- R31. -/
  | linjWrite (lane : Fin 4) (data : Word)
  /-- R27. -/
  | clockLost (lane : Fin 4)
  /-- R28. -/
  | clockRestored (lane : Fin 4)
  /-- R37. -/
  | syncFound (lane : Fin 4)
  /-- R38, R40, R41. -/
  | syncPosition (lane : Fin 4)
  /-- R44. -/
  | polarityFlipped (lane : Fin 4)
  /-- R46. -/
  | headerExtent (lane : Fin 4)
  /-- R47. -/
  | frameEnd (lane : Fin 4)
  /-- R139: a transition of the line's pin, `rising` its direction. -/
  | triggerEdge (line : Fin 4) (rising : Bool)
  /-- R138. -/
  | tgcfgWrite (line : Fin 4) (reg : TrigReg) (data : Word)
  /-- R132: a transition of the SYNC pin, `rising` its direction. -/
  | syncEdge (rising : Bool)
  /-- R134. -/
  | syncMissing
  /-- R136. -/
  | periodicTick
  /-- R142. -/
  | pulseEnd (line : Fin 4)
  /-- R110. -/
  | rpostWrite (route : Fin 16) (data : Word)
  /-- R90. -/
  | routeConfigWrite (route : Fin 16) (reg : RouteReg) (data : Word)
  /-- R114. -/
  | windowWrite (window : Fin 4) (reg : WindowReg) (data : Word)
  /-- R125. -/
  | crbaseWrite (half : BaseHalf) (data : Word)
  /-- R125: a CRCFG write with ENABLE = 1. -/
  | completionRingEnable (data : Word)
  /-- R125: a CRCFG write with ENABLE = 0. -/
  | completionRingDisable (data : Word)
  /-- R126. -/
  | crconsWrite (data : Word)
  /-- R86. -/
  | bshedWrite (data : Word)
  /-- R86. -/
  | bstatWrite (data : Word)
  /-- R150. -/
  | evpop (data : Word)
  /-- R157: an INTSTAT write with bit 1 at 1. -/
  | complClear (data : Word)
  /-- R156. -/
  | cmpmodWrite (data : Word)
  /-- R156. -/
  | moderationTimerExpiry
  /-- R155. -/
  | interruptMessage
  /-- R161. -/
  | commandUnknownOp
  /-- R163. -/
  | nop
  /-- R94. -/
  | routeArm
  /-- R95. -/
  | routeStart
  /-- R98. -/
  | routeStop
  /-- R100, R101. -/
  | routeAbort
  /-- R103. -/
  | routeResume
  /-- R104. -/
  | routeFlush
  /-- R60, R61. -/
  | matchWrite
  /-- R51. -/
  | laneResync
  /-- R164. -/
  | counterSnapshot
  /-- R133. -/
  | epochLoadNow
  /-- R173. -/
  | storeRead
  /-- R173. -/
  | storeWrite
  /-- R173. -/
  | storeLock
  /-- R174. -/
  | storeReload
  /-- R179. -/
  | quiesce
  /-- R183. -/
  | unquiesce
  /-- R181. -/
  | quiesced
  /-- R112. -/
  | descriptorFetch (route : Fin 16)
  /-- R113: the route's outstanding read ends by DATA or ERROR. -/
  | descriptorReadDone (route : Fin 16) (answer : ReadAnswer)
  /-- R15, R113. -/
  | descriptorReadTimeout (route : Fin 16)
  /-- R16: a response for a read of the route that is no longer outstanding. -/
  | lateResponse (route : Fin 16) (answer : ReadAnswer)
  /-- R116. -/
  | bufferOpen (route : Fin 16)
  /-- R117: one arbitration turn. -/
  | recordPlace
  /-- R121: the host link accepts `count` payload writes in this step. -/
  | payloadWrite (count : Nat)
  /-- R122. -/
  | lingerExpiry (route : Fin 16)
  /-- R99. -/
  | bufferCloseStop (route : Fin 16)
  /-- R180. -/
  | bufferCloseQuiesce (route : Fin 16)
  /-- R123. -/
  | completionEntry (route : Fin 16)
  /-- R101, step 5. -/
  | cancelEntry (route : Fin 16)
  /-- R127. -/
  | backlogDrain
  /-- R99. -/
  | routeDrained (route : Fin 16)
  /-- R101, step 6. -/
  | routeAbortDone (route : Fin 16)
  /-- R29: an LnCLK edge. -/
  | laneBitSampled (lane : Fin 4) (edge : ClockEdge)
  /-- R32. -/
  | injectBitFeed (lane : Fin 4)
  /-- R131: `level` was seen at two consecutive samples of the input. -/
  | acceptedTransition (input : Input) (level : Bool)
  /-- R159: a CMDISSUE write of `data`. -/
  | commandIssue (data : Word)
deriving DecidableEq, Repr

end Sys2Proof
end

