-- ==== Sys2Proof/Config.lean ====
section
/-! DEFINITION. What one SF-4 fixes: its sizes and its time limits, each with the rule that states it,
and the two values the manual leaves open (`openPin`, `openIndex`). -/

namespace Sys2Proof.Config

/-- Blocks of buffer memory (R68). -/
abbrev numBlocks : Nat := 16384

/-- Bytes in one block of buffer memory (R68). -/
abbrev blockBytes : Nat := 2048

/-- Bytes the inject FIFO of a lane holds (R31). -/
abbrev injectDepth : Nat := 16

/-- Edge-free ticks after which a lane's clock is lost (R27). -/
abbrev clockLimit : Nat := 4096

/-- Ticks from its issue after which a descriptor read ends by TIMEOUT (R15): 500 microseconds. -/
abbrev readLimit : Nat := 31250

/-- Ticks from its start after which a store operation fails (R169): 10 ms of 16 ns ticks. -/
abbrev storeLimit : Nat := 625000

/-- Ticks without an active SYNC edge after which the sync watchdog expires (R134). -/
abbrev syncLimit : Nat := 2 ^ 27

/-- Ticks in one kilotick (the conventions' "Time"). -/
abbrev kilotick : Nat := 1024

/-- Entries the event queue holds (R148). -/
abbrev eventDepth : Nat := 64

/-- A routine event is queued only while fewer entries than this are held (R148). -/
abbrev routineBudget : Nat := 48

/-- An essential event is queued only while fewer entries than this are held (R148). -/
abbrev essentialBudget : Nat := 63

/-- Commands the command FIFO holds (R159). -/
abbrev commandDepth : Nat := 8

/-- Entries a descriptor cache holds (R111). -/
abbrev cacheDepth : Nat := 4

/-- Blocks above the shed level at which SHED clears (R78). -/
abbrev shedHysteresis : Nat := 256

/-- Bytes that must remain in a PACKED buffer for it to stay open (R118). -/
abbrev minRoom : Nat := 24

/-- FREE VALUE (log entry 5). The level TGSTAT.PIN shows for trigger line `line` when the manual gives
none: an input line whose filter has taken no sample yet, or an output line before the end of the tick
that made it an output (R131, R137, R141). The second argument is the reference counter at the read, so
that reads of different ticks are not tied together. -/
opaque openPin (line : Nat) (tick : Nat) : Bool

/-- FREE VALUE (log entry 7). What the 12-bit INDEX field of a completion entry shows for a ring index that does
not fit in it. A ring of 2^13 to 2^15 slots fails the validity check (R93), but the abort of a DISABLED route
makes CANCEL entries without that check (R100, R124). -/
opaque openIndex (idx : Nat) : BitVec 12

end Sys2Proof.Config
end

