-- ==== Sys2Proof/Machine/State.lean ====
section
/-! DEFINITION. The state of the SF-4 as plain data, block by block, and its value at power-on reset.
Each field's comment names the rule that gives the field. A field marked MODEL is the model's own. -/

namespace Sys2Proof.Machine

/-- Why the block stops with a fault. The manual gives no occurrence after which the SF-4 stops, and no
command of this model faults: the type has no constructor (log entry 4). -/
inductive Fault where
deriving DecidableEq, Repr

/-- Why a command is refused. -/
inductive Refusal where
  /-- Raised only by an arm of `exec` that has no meaning yet; every arm has one, so nothing raises it.
  Safe: a refused command changes nothing. -/
  | notModelled (mnemonic : String)
deriving DecidableEq, Repr

/-! ### Lanes (R18 to R52) -/

/-- The six lane states, in the order of their LSTAT.STATE codes (R18). -/
inductive LaneState where
  | off | noclock | search | verify | locked | coast
deriving DecidableEq, Repr

/-- The eight lane counters, in the order of the table of R33. -/
inductive LaneCtr where
  | bytes | good | fcsBad | abandoned | lenErr | lockLoss | unmatched | marksLost
deriving DecidableEq, Repr

/-- What the synchronizer is receiving (R35): a body, or the bits of an expected sync position. -/
inductive Phase where
  | body | sync
deriving DecidableEq, Repr

/-- The assembly context of R35. -/
structure Assembly where
  phase : Phase
  /-- Whole body bytes received. -/
  nbytes : Nat
  /-- Bits received toward the current byte, or of the sync position. -/
  nbits : Nat
  /-- The current byte as assembled so far. -/
  cur : Byte
  /-- The frame length L, once it is known (R42). -/
  len : Option Nat
  /-- The work of the header extent has been done (R46). -/
  hdrDone : Bool
  /-- The FCS register (R48): it has taken every body byte but the last F. -/
  fcs : Word
  /-- The last bytes of the body, at most F, that the FCS register has not taken. -/
  delay : List Byte
  /-- The first bytes of the body, up to the header extent H. -/
  head : List Byte
deriving DecidableEq, Repr

/-- What a frame was given when it was classified and admitted (R57, R80). -/
structure Ticket where
  route : Fin 16
  /-- Match index, 0xFF for the lane default (R59). -/
  mIdx : Byte
  /-- The sequence value read from the header (R53). -/
  seq : BitVec 16
  /-- The generation captured at classification; none for the lane default (R57, R59). -/
  gen : Option Byte
  /-- The winning entry had SEQCHK = 1 at classification (R62). -/
  seqChk : Bool
  /-- The blocks reserved for the frame, in order (R68, R80). -/
  chain : List Nat
  /-- Admitted while its route was ARMED (R80). -/
  pretrig : Bool
deriving DecidableEq, Repr

/-- What has become of a frame in assembly. -/
inductive Fate where
  /-- The header extent has not been reached. -/
  | undecided
  /-- Discarded at classification or refused at admission: stored nowhere (R58, R81). -/
  | dropped
  /-- Admitted (R80). -/
  | admitted (t : Ticket)
  /-- Withdrawn by its route's abort (R101). -/
  | withdrawn
deriving DecidableEq, Repr

/-- The frame context of a delivered body (R35, R45). -/
structure FrameCtx where
  /-- The reference counter at the frame start. -/
  stamp : DWord
  /-- One bit for each trigger line whose mark the frame took. -/
  markMask : BitVec 4
  /-- The earliest edge time of the marks taken. -/
  markTime : DWord
  /-- The polarity state at the frame start was inverted. -/
  inv : Bool
  /-- The COAST flag. -/
  coast : Bool
  fate : Fate
deriving DecidableEq, Repr

/-- One lane: its receiver and its synchronizer. -/
structure Lane where
  /-- LCTL without ENABLE, which is the lane's not being OFF (R19). -/
  lctl : Word
  lsync : Word
  lfmt : Word
  lhdr : Word
  /-- LINJC (R31). -/
  linjc : BitVec 3
  /-- LSTAT.STATE (R18). -/
  st : LaneState
  /-- LSTAT.POL: the polarity state is inverted (R30). -/
  pol : Bool
  /-- LSTAT.LASTCHK (R24). -/
  lastChk : BitVec 3
  /-- The inject FIFO, head first (R31). -/
  fifo : List Byte
  /-- The byte being fed and how many of its bits have been handed over (R32). -/
  feed : Option (Byte × Nat)
  /-- Ticks since the last LnCLK edge (R27). -/
  wdog : Nat
  /-- The byte tally, modulo 8 (R33). -/
  tally : Nat
  /-- The eight counters (R33). -/
  ctr : Vector Word 8
  /-- LRATE and the rate tally behind it (R34). -/
  lrate : Word
  rateTally : Word
  /-- The bit history, newest bit at bit 0, and the number of bits it holds (R35). -/
  hist : Word
  histLen : Nat
  /-- MODEL: in SEARCH, the comparison of the last bit has not been made yet (R37). -/
  cmpDue : Bool
  /-- The verify count, the miss count and the dwell count (R35). -/
  verifyCnt : Nat
  missCnt : Nat
  dwell : Word
  /-- MODEL: the last bit brought the dwell count to D x 4096 (R44). -/
  dwellEnd : Bool
  /-- The assembly context, while a body is framed or a sync position is awaited. -/
  asm : Option Assembly
  /-- The frame context, while a delivered body is in assembly. -/
  frame : Option FrameCtx
  /-- The pending-mark cells, one per trigger line (R140). -/
  marks : Vector (Option DWord) 4
deriving DecidableEq, Repr

/-- A lane after power-on reset and host reset (R18 to R20, R33 to R35). -/
def Lane.reset : Lane where
  lctl := 0x00001040
  lsync := 0
  lfmt := 0x00003300
  lhdr := 0
  linjc := 4
  st := .off
  pol := false
  lastChk := 0
  fifo := []
  feed := none
  wdog := 0
  tally := 0
  ctr := Vector.replicate 8 0
  lrate := 0
  rateTally := 0
  hist := 0
  histLen := 0
  cmpDue := false
  verifyCnt := 0
  missCnt := 0
  dwell := 0
  dwellEnd := false
  asm := none
  frame := none
  marks := Vector.replicate 4 none

/-! ### Classifier (R53 to R67) -/

/-- One entry of the match table (R54). -/
structure MatchEntry where
  valid : Bool
  lanes : BitVec 4
  tagVal : Byte
  tagMask : Byte
  route : Fin 16
  /-- ACTION = DISCARD. -/
  discard : Bool
  seqChk : Bool
  expected : BitVec 16
  synced : Bool
  gen : Byte
  hits : Word
deriving DecidableEq, Repr

/-- A match entry after power-on reset and host reset (R67). -/
def MatchEntry.reset : MatchEntry where
  valid := false
  lanes := 0
  tagVal := 0
  tagMask := 0
  route := 0
  discard := false
  seqChk := false
  expected := 0
  synced := false
  gen := 0
  hits := 0

/-! ### Buffer manager (R68 to R87) -/

/-- Buffer memory, 32 MiB: a list of (address, byte) with addresses rising and no byte equal to 0, which is
what an unlisted address reads as (log entry 6). Byte o of block b is at address 2048 b + o. -/
abbrev Memory := List Host.Cell

/-- The buffer manager's own state. -/
structure BufMgr where
  /-- The free list, head first (R69). -/
  free : List Nat
  /-- The contents of the blocks (R68). -/
  mem : Memory
  /-- BSHED and BRESERVE (R86). -/
  bshed : BitVec 14
  breserve : BitVec 14
  /-- BSTAT.LOWFREE (R86). -/
  lowFree : Nat
  /-- The SHED and EXHAUSTED conditions (R77, R78). -/
  shed : Bool
  exhausted : Bool
deriving DecidableEq, Repr

/-- The buffer manager after power-on reset and host reset (R69, R87). -/
def BufMgr.reset : BufMgr where
  free := List.range' 0 Config.numBlocks
  mem := []
  bshed := 1024
  breserve := 32
  lowFree := Config.numBlocks
  shed := false
  exhausted := false

/-- A committed record in a route queue: its blocks and the header fields of R70. Its bytes stand in
buffer memory. -/
structure Record where
  chain : List Nat
  length : Nat
  flags : Byte
  lane : Fin 4
  mIdx : Byte
  seq : BitVec 16
  serial : Word
  flen : Nat
deriving DecidableEq, Repr

/-! ### Routes (R88 to R107) and the delivery engine (R108 to R128) -/

/-- The six route states, in the order of their RSTAT.STATE codes (R91). -/
inductive RouteState where
  | disabled | armed | running | stopping | aborting | halted
deriving DecidableEq, Repr

/-- The twelve route counters, in the order of the table of R106. -/
inductive RouteCtr where
  | admitted | refClosed | refQuota | refThreshold | refQuiesce | refHalted | evicted | fcsDiscarded
  | retroDiscarded | oversizeDiscarded | buffers | bytes
deriving DecidableEq, Repr

/-- Why a descriptor is faulty, in the order of their RSTAT.FAULT codes 1 to 4 (R91, R111). -/
inductive DescFault where
  | error | timeout | malformed | fence
deriving DecidableEq, Repr

/-- What a cache entry holds of a descriptor's data (R111). -/
structure DescData where
  tag : BitVec 16
  intReq : Bool
  length : Nat
  /-- In a good entry the effective address (R115), in a MALFORMED or FENCE entry ADDRESS as read (R111). -/
  address : DWord
deriving DecidableEq, Repr

/-- An entry of a descriptor cache (R111): good when it has no fault. -/
structure CacheEntry where
  idx : Nat
  fault : Option DescFault
  /-- None for an ERROR or TIMEOUT entry. -/
  data : Option DescData
deriving DecidableEq, Repr

/-- An outstanding descriptor read (R15). -/
structure ReadReq where
  /-- The count of its first descriptor (R112). -/
  start : Count
  /-- How many descriptors it asks for. -/
  n : Nat
  /-- Ticks since its issue. -/
  age : Nat
  /-- Made stale by a halt (R102). -/
  stale : Bool
deriving DecidableEq, Repr

/-- Completion reasons, in the order of their codes (TABLE 7-2). -/
inductive Reason where
  | full | single | linger | flush | stop | abort | cancel | quiesce
deriving DecidableEq, Repr

/-- The open or closed buffer of a route (R116). -/
structure Buffer where
  idx : Nat
  tag : BitVec 16
  intReq : Bool
  length : Nat
  /-- Effective address of its byte 0 (R115). -/
  address : DWord
  /-- Used bytes and record count (R118). -/
  used : Nat
  count : Nat
  /-- The flags gathered from its records (R124). -/
  pretrig : Bool
  fcsBad : Bool
  seq : Bool
  mark : Bool
  /-- Linger timer: none while it is stopped (R122). -/
  linger : Option Nat
  /-- The reason it was closed with; none while it is open (R123). -/
  closed : Option Reason
deriving DecidableEq, Repr

/-- One route: its registers, its queue, and its side of the delivery engine. -/
structure Route where
  /-- Configuration, RCFG to RRBASE_HI (R88, R89). -/
  rcfg : Word
  rquota : Word
  rpretrig : Word
  rbudget : Word
  rlinger : Word
  rrbaseLo : Word
  rrbaseHi : Word
  /-- RPOST, RDONE, RFETCH (R88). -/
  rpost : Count
  rdone : Count
  rfetch : Count
  /-- RSTAT (R91). -/
  st : RouteState
  hfrom : RouteState
  fault : Option DescFault
  fidx : Nat
  /-- RCSEL (R106). -/
  rcsel : BitVec 4
  /-- The twelve counters (R106). -/
  ctr : Vector Word 12
  /-- RSERIAL (R83). -/
  serial : Word
  /-- RBCNT (R97). -/
  rbcnt : Nat
  /-- The quota-episode flag (R76). -/
  quotaEp : Bool
  /-- The queue of records, head first (R84). -/
  queue : List Record
  /-- The descriptor cache, head first (R111). -/
  cache : List CacheEntry
  /-- The outstanding descriptor read (R15). -/
  read : Option ReadReq
  /-- The open or closed buffer (R116). -/
  buf : Option Buffer
deriving DecidableEq, Repr

/-- A route after power-on reset and host reset (R88, R107). -/
def Route.reset : Route where
  rcfg := 0
  rquota := 1024
  rpretrig := 0
  rbudget := 0
  rlinger := 0
  rrbaseLo := 0
  rrbaseHi := 0
  rpost := 0
  rdone := 0
  rfetch := 0
  st := .disabled
  hfrom := .disabled
  fault := none
  fidx := 0
  rcsel := 0
  ctr := Vector.replicate 12 0
  serial := 0
  rbcnt := 0
  quotaEp := false
  queue := []
  cache := []
  read := none
  buf := none

/-- A fence window (R114). -/
structure Window where
  maskLo : Word
  maskHi : Word
  setLo : Word
  setHi : Word
deriving DecidableEq, Repr

/-- A completion entry before PHASE and TIME are fixed (R124). -/
structure Completion where
  route : Fin 16
  used : Nat
  tag : BitVec 16
  idx : Nat
  reason : Reason
  count : Nat
  pretrig : Bool
  fcsBad : Bool
  seq : Bool
  mark : Bool
  intReq : Bool
  tagInvalid : Bool
deriving DecidableEq, Repr

/-- The record in progress (R117). -/
structure InProgress where
  route : Fin 16
  /-- The record's offset in the buffer. -/
  off : Nat
  /-- Payload bytes issued so far, padding included. -/
  done : Nat
deriving DecidableEq, Repr

/-- The delivery engine's shared state. -/
structure Engine where
  windows : Vector Window 4
  /-- CRBASE, CRSIZE, ENABLE, CRPROD with its phase, CRCONS (R125). -/
  crbaseLo : Word
  crbaseHi : Word
  crsize : BitVec 4
  crEnable : Bool
  crprod : Count
  phase : Bool
  crcons : Count
  /-- The completion backlog, head first, and the most entries it has held since it was last empty (R127). -/
  backlog : List Completion
  backlogMax : Nat
  /-- The record in progress and the last route served (R117). -/
  inProg : Option InProgress
  lastServed : Fin 16
deriving DecidableEq, Repr

/-- The engine after power-on reset and host reset (R128). -/
def Engine.reset : Engine where
  windows := Vector.replicate 4 ⟨0, 0, 0, 0⟩
  crbaseLo := 0
  crbaseHi := 0
  crsize := 0
  crEnable := false
  crprod := 0
  phase := true
  crcons := 0
  backlog := []
  backlogMax := 0
  inProg := none
  lastServed := 15

/-! ### Timebase and trigger port (R129 to R144) -/

/-- The two-sample filter of an input (R131), which samples its pin once per tick. A field is none where no
command has told the level: a sample that led to no accepted transition has no row of the table. -/
structure Filter where
  /-- The filtered level; none until the filter has taken its first sample. -/
  level : Option Bool
  /-- The sample of the tick before this one. -/
  last : Option Bool
  /-- The sample of this tick. -/
  now : Option Bool
deriving DecidableEq, Repr

/-- A filter that has taken no sample (R131). -/
def Filter.empty : Filter where
  level := none
  last := none
  now := none

/-- The timebase. -/
structure Timebase where
  /-- The reference counter (R129). -/
  ref : DWord
  /-- EPOCH (R130). -/
  epochLo : Word
  epochHi : Word
  /-- TBCTL (R130). -/
  armed : Bool
  syncFalling : Bool
  syncEvt : Bool
  /-- SYNCCAP (R132). -/
  syncCap : DWord
  /-- TBSTAT.SYNC_PRESENT (R134). -/
  present : Bool
  /-- The filter of the SYNC pin (R131). -/
  filter : Filter
  /-- Ticks since the last active SYNC edge (R134). -/
  wdog : Nat
deriving DecidableEq, Repr

/-- The timebase after power-on reset (R129, R130, R134). -/
def Timebase.reset : Timebase where
  ref := 0
  epochLo := 0
  epochHi := 0
  armed := false
  syncFalling := false
  syncEvt := false
  syncCap := 0
  present := false
  filter := Filter.empty
  wdog := 0

/-- One trigger line (R137). -/
structure Trig where
  /-- TGCFG bits 0-13. -/
  cfg : Word
  /-- TGARG. -/
  arg : Word
  /-- FLAG, and MODEL: it was set in this tick, in which a 1 written to it does not clear it (R6). -/
  flag : Bool
  flagNow : Bool
  edges : BitVec 16
  /-- TGTIME and its shadow (R9, R139). -/
  time : DWord
  shadow : Word
  /-- The filter of the pin, which runs while the direction is IN (R131). -/
  filter : Filter
  /-- The pulse count, and MODEL: it was set in this tick, whose end does not lower it (R142). -/
  pulse : Nat
  pulseFresh : Bool
  /-- The FLOW state is active (R143). -/
  flow : Bool
  /-- The pin's driven level; none while the pin is not driven (R141). -/
  driven : Option Bool
deriving DecidableEq, Repr

/-- A trigger line after power-on reset and host reset (R144). -/
def Trig.reset : Trig where
  cfg := 0
  arg := 0
  flag := false
  flagNow := false
  edges := 0
  time := 0
  shadow := 0
  filter := Filter.empty
  pulse := 0
  pulseFresh := false
  flow := false
  driven := none

/-! ### Events and interrupts (R145 to R157) -/

/-- One entry of the event queue (R145). A loss marker has cause 0xF0 (R148). -/
structure Event where
  cause : Byte
  source : Byte
  seq : BitVec 16
  time : Word
  a : Word
  b : Word
deriving DecidableEq, Repr

/-- The event queue, head first, and the event sequence counter (R147, R149). -/
structure Events where
  queue : List Event
  seq : BitVec 16
deriving DecidableEq, Repr

/-- The interrupt unit. -/
structure Interrupts where
  /-- The latched flags of INTSTAT (R152). -/
  compl : Bool
  /-- MODEL: COMPL was set in this tick, so that a clear of the same tick leaves it set (R6). -/
  complNow : Bool
  tick : Bool
  sync : Bool
  /-- INTEN (R152). -/
  inten : BitVec 5
  /-- CMPMOD (R156). -/
  cmpCount : BitVec 8
  cmpTimer : BitVec 16
  /-- The moderation count, and the moderation timer: none while it is stopped (R156). -/
  modCount : BitVec 8
  modTimer : Option Nat
  /-- The request as evaluated in the previous tick (R155). -/
  prevReq : Bool
  /-- MODEL: the rise of this tick has already been turned into a message (R155). -/
  asked : Bool
  /-- A message is held (R17). -/
  held : Bool
  /-- INTL is driven low (R154). -/
  intl : Bool
deriving DecidableEq, Repr

/-- The interrupt unit after power-on reset and host reset (R152, R153, R154, R156, R157). -/
def Interrupts.reset : Interrupts where
  compl := false
  complNow := false
  tick := false
  sync := false
  inten := 0
  cmpCount := 1
  cmpTimer := 0
  modCount := 0
  modTimer := none
  prevReq := false
  asked := false
  held := false
  intl := false

/-! ### Command port (R158 to R166) -/

/-- A captured command (R158). -/
structure Cmd where
  op : Byte
  target : Byte
  token : Byte
  arg0 : Word
  arg1 : Word
deriving DecidableEq, Repr

/-- The command port. -/
structure CmdPort where
  arg0 : Word
  arg1 : Word
  /-- The command FIFO, head first (R159). -/
  fifo : List Cmd
  /-- HELD: the head command waits on the store (R160). -/
  busy : Bool
  /-- SNAPPAGE bit 0, SNAPINFO, SNAPTIME (R158). -/
  snapPage : Bool
  snapInfo : Word
  snapTime : DWord
  /-- The snapshot area (R165). -/
  snapLanes : Vector (Vector Word 8) 4
  snapRoutes : Vector (Vector Word 12) 16
deriving DecidableEq, Repr

/-- The command port after power-on reset and host reset (R166). -/
def CmdPort.reset : CmdPort where
  arg0 := 0
  arg1 := 0
  fifo := []
  busy := false
  snapPage := false
  snapInfo := 0
  snapTime := 0
  snapLanes := Vector.replicate 4 (Vector.replicate 8 0)
  snapRoutes := Vector.replicate 16 (Vector.replicate 12 0)

/-! ### Store controller (R167 to R174) -/

/-- A store operation in progress (R169): its word number, and its age in ticks. -/
structure StoreOp where
  word : Nat
  age : Nat
deriving DecidableEq, Repr

/-- What the store controller is doing, with the words it has read so far. -/
inductive StoreJob where
  /-- Nothing. -/
  | idle
  /-- A power-on or host reset has acted and the boot load has not begun (R170). -/
  | bootWait
  /-- The identity phase, with the words read from word 0 on (R170). -/
  | bootIdentity (words : List Word)
  /-- The preset phase, with the words read from word 64 on (R170). -/
  | bootPreset (words : List Word)
  /-- STORE_READ and STORE_WRITE hold the port (R173). -/
  | cmdRead
  | cmdWrite (data : Word)
  /-- STORE_RELOAD holds the port, with the words read from word 64 on (R174). -/
  | reload (words : List Word)
deriving DecidableEq, Repr

/-- The store controller (R168). -/
structure Store where
  /-- STFMT, STSER_LO, STSER_HI, STHWREV, STTRIM, STDATE. -/
  ids : Vector Word 6
  slb : Nat
  idBad : Bool
  /-- STSTAT.LAST and the applied and skipped counts. -/
  last : BitVec 2
  applied : Nat
  skipped : Nat
  /-- The operation in progress; STSTAT.BUSY is its presence. -/
  op : Option StoreOp
  job : StoreJob
deriving DecidableEq, Repr

/-- The store controller after power-on reset (R168, R170). -/
def Store.reset : Store where
  ids := Vector.replicate 6 0
  slb := 64
  idBad := false
  last := 0
  applied := 0
  skipped := 0
  op := none
  job := .bootWait

/-! ### Host port, resets and quiesce (R3 to R17, R175 to R183) -/

/-- The host port. -/
structure HostPort where
  /-- ACCERR (R4). -/
  accerr : Word
  /-- DEVCTL (R11). -/
  masterEn : Bool
  intMaster : Bool
  /-- INT_MODE: MESSAGE. -/
  intMode : Bool
  /-- The shadows of REF and SYNCCAP (R9). -/
  shadowRef : Word
  shadowSync : Word
deriving DecidableEq, Repr

/-- The host port after power-on reset and host reset (R4, R9, R11). -/
def HostPort.reset : HostPort where
  accerr := 0
  masterEn := false
  intMaster := false
  intMode := false
  shadowRef := 0
  shadowSync := 0

/-- A descriptor read issued before the device reset that has not ended (R178). -/
structure OldRead where
  route : Fin 16
  /-- How many descriptors it asked for. -/
  n : Nat
  /-- Ticks since its issue. -/
  age : Nat
deriving DecidableEq, Repr

/-- Reset and quiesce control. -/
structure Control where
  /-- DEVSTAT.LOADING, RESET_BUSY, QUIESCING, QUIESCED (R12). -/
  loading : Bool
  resetBusy : Bool
  quiescing : Bool
  quiesced : Bool
  /-- A power-on or host reset acted in step 1 of this tick (R136). -/
  resetTick : Bool
  /-- Reads issued before the device reset that have not ended (R178). -/
  oldReads : List OldRead
  /-- Reads outstanding when the device reset began, and how many of them ended by TIMEOUT (R178). -/
  readsAtReset : Nat
  readTimeouts : Nat
deriving DecidableEq, Repr

/-- Reset and quiesce control after power-on reset and host reset (R12, R175). -/
def Control.reset : Control where
  loading := true
  resetBusy := false
  quiescing := false
  quiesced := false
  resetTick := true
  oldReads := []
  readsAtReset := 0
  readTimeouts := 0

/-- One bus-master transaction (R13): what the SF-4 hands to the host link. -/
inductive BusTxn where
  /-- A descriptor read of `n` descriptors (R15). -/
  | read (route : Fin 16) (addr : DWord) (n : Nat)
  /-- A payload write (R121). -/
  | payload (addr : DWord) (data : List Byte)
  /-- A completion entry, its sixteen bytes (R124). -/
  | completion (addr : DWord) (data : List Byte)
  /-- An interrupt message; its address and data are the host link's (R155). -/
  | message
deriving DecidableEq, Repr

/-- The state of the SF-4. -/
structure State where
  host : HostPort
  lanes : Vector Lane 4
  table : Vector MatchEntry 32
  buf : BufMgr
  routes : Vector Route 16
  eng : Engine
  tb : Timebase
  trigs : Vector Trig 4
  ev : Events
  irq : Interrupts
  cmd : CmdPort
  store : Store
  ctl : Control
  /-- MODEL: every bus-master transaction issued so far, oldest first (R13, R17). -/
  bus : List BusTxn
  /-- MODEL: the word the last modelled host read returned (R4, R9). -/
  hostData : Word
  /-- MODEL: how far this tick has come in the service order of R1: the slot of its last occurrence
  (`Machine.slot`). -/
  pos : Nat
  /-- MODEL: the commands that are waiting, first in first out. -/
  pending : List Instr
deriving DecidableEq, Repr

/-- The machine right after power-on reset (R175, TABLE 12-1): the tick in which the reset acts, in step 1 of R1,
with LOADING at 1 and the boot load not yet begun. -/
def State.reset : State where
  host := HostPort.reset
  lanes := Vector.replicate 4 Lane.reset
  table := Vector.replicate 32 MatchEntry.reset
  buf := BufMgr.reset
  routes := Vector.replicate 16 Route.reset
  eng := Engine.reset
  tb := Timebase.reset
  trigs := Vector.replicate 4 Trig.reset
  ev := { queue := [], seq := 0 }
  irq := Interrupts.reset
  cmd := CmdPort.reset
  store := Store.reset
  ctl := Control.reset
  bus := []
  hostData := 0
  pos := 1000
  pending := []

end Sys2Proof.Machine
end

