-- ==== Sys2Proof/Machine/Operands.lean ====
section
/-! DEFINITION. Operand forms: the bit fields of the registers and formats, the field encodings that stand
for no value, byte orders, the two-complement length adjust, and the codes that registers and events
show. -/

namespace Sys2Proof.Machine

/-! ### Bit fields -/

/-- Bits lo to lo + len - 1 of a word, as a number. -/
def fieldOf {w : Nat} (x : BitVec w) (lo len : Nat) : Nat := x.toNat / 2 ^ lo % 2 ^ len

/-- The word whose bits lo to lo + len - 1 are 1. -/
def maskOf (lo len : Nat) : Word := BitVec.ofNat 32 ((2 ^ len - 1) * 2 ^ lo)

/-- Bits of `new` where the mask is 1, bits of `old` elsewhere. -/
def mergeBits (mask old new : Word) : Word := (old &&& ~~~mask) ||| (new &&& mask)

/-- A field whose written encoding stands for no value keeps what it held (R21, R137, R156). -/
def keepField (bad : Nat → Bool) (lo len : Nat) (old new : Word) : Word :=
  if bad (fieldOf new lo len) then mergeBits (maskOf lo len) new old else new

/-- A word made of field values at their bit positions. -/
def packWord : List (Nat × Nat) → Word
  | [] => 0
  | (v, lo) :: rest => BitVec.ofNat 32 (v * 2 ^ lo) ||| packWord rest

/-- The LO and HI words of a 64-bit quantity, and the quantity of two words (R3). -/
def loWord (d : DWord) : Word := d.extractLsb' 0 32

/-- See `loWord`. -/
def hiWord (d : DWord) : Word := d.extractLsb' 32 32

/-- See `loWord`. -/
def pairWords (lo hi : Word) : DWord := hi ++ lo

/-- The k low bytes of a number, least significant first: the byte order of host structures (R2). -/
def leBytes : Nat → Nat → List Byte
  | 0, _ => []
  | k + 1, v => BitVec.ofNat 8 v :: leBytes k (v / 256)

/-- The number whose bytes are given most significant first: the byte order of frame fields (R2). -/
def beNat (bs : List Byte) : Nat := bs.foldl (fun acc b => acc * 256 + b.toNat) 0

/-- The number whose bytes are given least significant first: the byte order of host structures (R2). -/
def leNat : List Byte → Nat
  | [] => 0
  | b :: bs => b.toNat + 256 * leNat bs

/-- Words as they stand in host memory (R2). -/
def wordBytes (ws : List Word) : List Byte := ws.flatMap (fun w => leBytes 4 w.toNat)

/-- Round up to a multiple of 8 (R118). -/
def roundUp8 (n : Nat) : Nat := (n + 7) / 8 * 8

/-- Truth as a bit. -/
def bit (b : Bool) : Nat := if b then 1 else 0

/-- A map over a vector, by its list of entries. -/
def mapVec {α β : Type} {n : Nat} (f : α → β) (v : Vector α n) : Vector β n :=
  ⟨(v.toList.map f).toArray, by simp⟩

/-! ### Codes -/

/-- The code of a lane state in LSTAT.STATE and in event details (R18). -/
def laneCode : LaneState → Nat
  | .off => 0
  | .noclock => 1
  | .search => 2
  | .verify => 3
  | .locked => 4
  | .coast => 5

/-- The code of a route state in RSTAT.STATE, results and event details (R91). -/
def routeCode : RouteState → Nat
  | .disabled => 0
  | .armed => 1
  | .running => 2
  | .stopping => 3
  | .aborting => 4
  | .halted => 5

/-- The code of a fault reason in RSTAT.FAULT (R91). -/
def faultCode : Option DescFault → Nat
  | none => 0
  | some .error => 1
  | some .timeout => 2
  | some .malformed => 3
  | some .fence => 4

/-- The code of a completion reason (TABLE 7-2). -/
def reasonCode : Reason → Nat
  | .full => 0
  | .single => 1
  | .linger => 2
  | .flush => 3
  | .stop => 4
  | .abort => 5
  | .cancel => 6
  | .quiesce => 7

/-- The place of a lane counter in the table of R33. -/
def laneCtrIdx : LaneCtr → Fin 8
  | .bytes => 0
  | .good => 1
  | .fcsBad => 2
  | .abandoned => 3
  | .lenErr => 4
  | .lockLoss => 5
  | .unmatched => 6
  | .marksLost => 7

/-- The index of a route counter (R106). -/
def routeCtrIdx : RouteCtr → Fin 12
  | .admitted => 0
  | .refClosed => 1
  | .refQuota => 2
  | .refThreshold => 3
  | .refQuiesce => 4
  | .refHalted => 5
  | .evicted => 6
  | .fcsDiscarded => 7
  | .retroDiscarded => 8
  | .oversizeDiscarded => 9
  | .buffers => 10
  | .bytes => 11

/-- A lane, route, line or entry number as an event's source index (R145). -/
def srcIdx {n : Nat} (i : Fin n) : Byte := BitVec.ofNat 8 i.val

/-- The source index of an event that names no lane, route, line or entry (R145). -/
def noSource : Byte := 0xFF

/-! ### Lane configuration (R19 to R21) -/

/-- LCTL.EDGE: sample on the falling edge. -/
def Lane.fallingEdge (l : Lane) : Bool := l.lctl.getLsbD 1

/-- LCTL.ORDER: LSB-first (R29). -/
def Lane.lsbFirst (l : Lane) : Bool := l.lctl.getLsbD 2

/-- LCTL.SOURCE: INJECT. -/
def Lane.inject (l : Lane) : Bool := l.lctl.getLsbD 3

/-- LCTL.POLMODE: 0 AUTO, 1 NORMAL, 2 INVERTED. -/
def Lane.polMode (l : Lane) : Nat := fieldOf l.lctl 4 2

/-- LCTL.DEFACT: DISCARD. -/
def Lane.defDiscard (l : Lane) : Bool := l.lctl.getLsbD 6

/-- LCTL.DWELL, D. -/
def Lane.dwellLimit (l : Lane) : Nat := fieldOf l.lctl 8 8

/-- The sync length S in bits: 16, 24 or 32 for SLEN 0, 1 or 2 (R20). -/
def Lane.syncLen (l : Lane) : Nat := 16 + 8 * fieldOf l.lfmt 0 2

/-- The mismatch tolerance T. -/
def Lane.tol (l : Lane) : Nat := fieldOf l.lfmt 2 2

/-- FMODE: LENGTH. -/
def Lane.lengthMode (l : Lane) : Bool := l.lfmt.getLsbD 4

/-- The FCS length F in bytes: 0, 2 or 4. -/
def Lane.fcsLen (l : Lane) : Nat := 2 * fieldOf l.lfmt 5 2

/-- The verify count V and the coast limit M. -/
def Lane.verifyGoal (l : Lane) : Nat := fieldOf l.lfmt 8 3

/-- See `Lane.verifyGoal`. -/
def Lane.coastLimit (l : Lane) : Nat := fieldOf l.lfmt 12 3

/-- FIXLEN. -/
def Lane.fixLen (l : Lane) : Nat := fieldOf l.lfmt 16 13

/-- The header fields of LHDR (R20). -/
def Lane.tagOff (l : Lane) : Nat := fieldOf l.lhdr 0 4

/-- See `Lane.tagOff`. -/
def Lane.seqOff (l : Lane) : Nat := fieldOf l.lhdr 4 4

/-- See `Lane.tagOff`. -/
def Lane.seqWidth (l : Lane) : Nat := fieldOf l.lhdr 8 2

/-- See `Lane.tagOff`. -/
def Lane.lenOff (l : Lane) : Nat := fieldOf l.lhdr 12 4

/-- See `Lane.tagOff`. -/
def Lane.lenWidth (l : Lane) : Nat := fieldOf l.lhdr 16 2

/-- LADJ, two's complement, -16 to 15 (R20). -/
def Lane.lenAdjust (l : Lane) : Int := (l.lhdr.extractLsb' 20 5).toInt

/-- DEFROUTE. -/
def Lane.defRoute (l : Lane) : Fin 16 := Fin.ofNat 16 (fieldOf l.lhdr 28 4)

/-- The header extent H (R20): the smallest byte count that contains every header field present. -/
def Lane.hdrExtent (l : Lane) : Nat :=
  max (l.tagOff + 1)
    (max (if l.seqWidth = 0 then 0 else l.seqOff + l.seqWidth)
      (if l.lenWidth = 0 then 0 else l.lenOff + l.lenWidth))

/-- The check code of R24: the first condition that holds, 0 if none does. -/
def Lane.checkCode (l : Lane) : Nat :=
  if fieldOf l.lfmt 0 2 = 3 then 1
  else if l.hdrExtent > 16 then 2
  else if l.lengthMode then (if l.lenWidth = 0 then 6 else 0)
  else if l.fixLen < 4 ∨ l.fixLen > 4096 then 3
  else if l.hdrExtent > l.fixLen then 4
  else if l.fcsLen ≥ l.fixLen then 5
  else 0

/-- The polarity state that POLMODE and SOURCE give at enable (R25, R30, R52). -/
def Lane.startPol (l : Lane) : Bool := !l.inject && l.polMode == 2

/-- What a configuration word of a lane holds after an accepted write (R19 to R21): defined bits only, and
fields whose encoding stands for no value kept. ENABLE is not among LCTL's stored bits. -/
def laneRegValue (reg : LaneReg) (old new : Word) : Word :=
  match reg with
  | .lctl => keepField (· == 0) 8 8 old (keepField (· == 3) 4 2 old (new &&& 0x0000FF7E#32))
  | .lsync => new
  | .lfmt =>
    keepField (· == 0) 12 3 old
      (keepField (· == 0) 8 3 old (keepField (· == 3) 5 2 old (new &&& 0x1FFF777F#32)))
  | .lhdr => keepField (· == 3) 16 2 old (keepField (· == 3) 8 2 old (new &&& 0xF1F3F3FF#32))

/-- A configuration word of a lane as held. -/
def Lane.reg (l : Lane) : LaneReg → Word
  | .lctl => l.lctl
  | .lsync => l.lsync
  | .lfmt => l.lfmt
  | .lhdr => l.lhdr

/-- The lane with one configuration word replaced. -/
def Lane.withReg (l : Lane) (reg : LaneReg) (w : Word) : Lane :=
  match reg with
  | .lctl => { l with lctl := w }
  | .lsync => { l with lsync := w }
  | .lfmt => { l with lfmt := w }
  | .lhdr => { l with lhdr := w }

/-! ### Route configuration (R88, R89) -/

/-- CLASS: HIGH. -/
def Route.high (r : Route) : Bool := r.rcfg.getLsbD 0

/-- WINDOW. -/
def Route.window (r : Route) : Fin 4 := Fin.ofNat 4 (fieldOf r.rcfg 4 2)

/-- MODE: SINGLE. -/
def Route.single (r : Route) : Bool := r.rcfg.getLsbD 8

/-- TIMESTAMP. -/
def Route.timestamp (r : Route) : Bool := r.rcfg.getLsbD 12

/-- STRIP_FCS. -/
def Route.stripFcs (r : Route) : Bool := r.rcfg.getLsbD 13

/-- KEEP_ERRORED. -/
def Route.keepErrored (r : Route) : Bool := r.rcfg.getLsbD 14

/-- DROP_RETROGRADE. -/
def Route.dropRetro (r : Route) : Bool := r.rcfg.getLsbD 15

/-- RSIZE and the ring size s = 2^RSIZE (R89, R109). -/
def Route.rsize (r : Route) : Nat := fieldOf r.rcfg 16 4

/-- See `Route.rsize`. -/
def Route.ringSize (r : Route) : Nat := 2 ^ r.rsize

/-- Quota Q, pre-trigger limit P, budget and linger in kiloticks (R88). -/
def Route.quota (r : Route) : Nat := fieldOf r.rquota 0 15

/-- See `Route.quota`. -/
def Route.pretrigLimit (r : Route) : Nat := fieldOf r.rpretrig 0 8

/-- See `Route.quota`. -/
def Route.budget (r : Route) : Nat := fieldOf r.rbudget 0 24

/-- See `Route.quota`. -/
def Route.lingerLimit (r : Route) : Nat := fieldOf r.rlinger 0 16

/-- What a configuration word of a route holds after an accepted write (R88, R89): defined bits only; a
quota above 16384 leaves the quota as it was. -/
def routeRegValue (reg : RouteReg) (old new : Word) : Word :=
  match reg with
  | .rcfg => new &&& 0x000FF131#32
  | .rquota => if fieldOf new 0 15 > Config.numBlocks then old else new &&& 0x00007FFF#32
  | .rpretrig => new &&& 0x000000FF#32
  | .rbudget => new &&& 0x00FFFFFF#32
  | .rlinger => new &&& 0x0000FFFF#32
  | .rrbaseLo => new
  | .rrbaseHi => new

/-- A configuration word of a route as held. -/
def Route.reg (r : Route) : RouteReg → Word
  | .rcfg => r.rcfg
  | .rquota => r.rquota
  | .rpretrig => r.rpretrig
  | .rbudget => r.rbudget
  | .rlinger => r.rlinger
  | .rrbaseLo => r.rrbaseLo
  | .rrbaseHi => r.rrbaseHi

/-- The route with one configuration word replaced. -/
def Route.withReg (r : Route) (reg : RouteReg) (w : Word) : Route :=
  match reg with
  | .rcfg => { r with rcfg := w }
  | .rquota => { r with rquota := w }
  | .rpretrig => { r with rpretrig := w }
  | .rbudget => { r with rbudget := w }
  | .rlinger => { r with rlinger := w }
  | .rrbaseLo => { r with rrbaseLo := w }
  | .rrbaseHi => { r with rrbaseHi := w }

/-- The ring base as a 64-bit address (R88). -/
def Route.ringBase (r : Route) : DWord := pairWords r.rrbaseLo r.rrbaseHi

/-! ### Fence windows (R114) -/

/-- Mask and set value as 64-bit addresses. -/
def Window.mask (w : Window) : DWord := pairWords w.maskLo w.maskHi

/-- See `Window.mask`. -/
def Window.set (w : Window) : DWord := pairWords w.setLo w.setHi

/-- The window with one word replaced. -/
def Window.withReg (w : Window) (reg : WindowReg) (x : Word) : Window :=
  match reg with
  | .maskLo => { w with maskLo := x }
  | .maskHi => { w with maskHi := x }
  | .setLo => { w with setLo := x }
  | .setHi => { w with setHi := x }

/-- A word of the window as held. -/
def Window.reg (w : Window) : WindowReg → Word
  | .maskLo => w.maskLo
  | .maskHi => w.maskHi
  | .setLo => w.setLo
  | .setHi => w.setHi

/-! ### Trigger lines (R137) -/

/-- DIR: OUT. -/
def Trig.out (t : Trig) : Bool := t.cfg.getLsbD 0

/-- EDGE: 0 RISE, 1 FALL, 2 BOTH. -/
def Trig.edge (t : Trig) : Nat := fieldOf t.cfg 1 2

/-- IE and EE. -/
def Trig.ie (t : Trig) : Bool := t.cfg.getLsbD 3

/-- See `Trig.ie`. -/
def Trig.ee (t : Trig) : Bool := t.cfg.getLsbD 4

/-- OMODE: 0 LEVEL, 1 PULSE, 2 FLOW. -/
def Trig.omode (t : Trig) : Nat := fieldOf t.cfg 5 2

/-- OVAL. -/
def Trig.oval (t : Trig) : Bool := t.cfg.getLsbD 7

/-- Bit k of MARK. -/
def Trig.marksLane (t : Trig) (k : Fin 4) : Bool := t.cfg.getLsbD (8 + k.val)

/-- PSRC: 0 tick, 1 SYNC edge, 2 shed start, 3 route start. -/
def Trig.psrc (t : Trig) : Nat := fieldOf t.cfg 12 2

/-- Bit r of the route start mask and of the route stop mask (TGARG, direction IN). -/
def Trig.starts (t : Trig) (r : Fin 16) : Bool := t.arg.getLsbD r.val

/-- See `Trig.starts`. -/
def Trig.stops (t : Trig) (r : Fin 16) : Bool := t.arg.getLsbD (16 + r.val)

/-- WIDTH (TGARG, OUT in PULSE). -/
def Trig.width (t : Trig) : Nat := fieldOf t.arg 0 16

/-- ROUTE, ONLVL and OFFLVL (TGARG, OUT in PULSE and FLOW). -/
def Trig.route (t : Trig) : Fin 16 := Fin.ofNat 16 (fieldOf t.arg 28 4)

/-- See `Trig.route`. -/
def Trig.onLevel (t : Trig) : Nat := fieldOf t.arg 0 14

/-- See `Trig.route`. -/
def Trig.offLevel (t : Trig) : Nat := fieldOf t.arg 14 14

/-- The line is an output in PULSE mode, or in FLOW mode. -/
def Trig.pulsing (t : Trig) : Bool := t.out && t.omode == 1

/-- See `Trig.pulsing`. -/
def Trig.flowing (t : Trig) : Bool := t.out && t.omode == 2

/-- Whether a transition in the given direction is active (R131). -/
def Trig.selects (t : Trig) (rising : Bool) : Bool :=
  t.edge == 2 || (t.edge == 0 && rising) || (t.edge == 1 && !rising)

/-- The level an output line is to be driven at (R141). -/
def Trig.outLevel (t : Trig) : Bool :=
  if t.omode = 1 then (t.pulse != 0) ^^ t.oval
  else if t.omode = 2 then t.flow ^^ t.oval
  else t.oval

/-- TGCFG bits 0-13 after a write (R137): EDGE 3 and OMODE 3 leave their fields as they were. -/
def trigCfgValue (old new : Word) : Word :=
  keepField (· == 3) 5 2 old (keepField (· == 3) 1 2 old (new &&& 0x00003FFF#32))

/-! ### Descriptors and completion entries (R109, R124) -/

/-- The descriptor that stands in 16 bytes of host memory, little-endian (R2, TABLE 7-1). -/
def descOf (bs : List Byte) : RawDesc where
  address := BitVec.ofNat 64 (leNat (bs.take 8))
  length := BitVec.ofNat 32 (leNat ((bs.drop 8).take 4))
  control := BitVec.ofNat 32 (leNat ((bs.drop 12).take 4))

/-- The first n descriptors that stand in bytes of host memory, in ring order. -/
def descsOf : Nat → List Byte → List RawDesc
  | 0, _ => []
  | n + 1, bs => descOf bs :: descsOf n (bs.drop 16)

/-- HOST TAG and INT_REQ of a descriptor. -/
def descTag (d : RawDesc) : BitVec 16 := d.control.extractLsb' 0 16

/-- See `descTag`. -/
def descIntReq (d : RawDesc) : Bool := d.control.getLsbD 16

/-- Words 0 to 2 of a completion entry, with its phase (TABLE 7-3). -/
def Completion.word0 (e : Completion) (phase : Bool) : Word :=
  packWord [(e.used, 0), (e.route.val, 24), (bit phase, 31)]

/-- The INDEX field (TABLE 7-3): 12 bits; a free value for an index that does not fit (log entry 7). -/
def indexField (idx : Nat) : Nat := if idx < 4096 then idx else (Config.openIndex idx).toNat

/-- See `Completion.word0`. -/
def Completion.word1 (e : Completion) : Word :=
  packWord [(e.tag.toNat, 0), (indexField e.idx, 16), (reasonCode e.reason, 28)]

/-- See `Completion.word0`. -/
def Completion.word2 (e : Completion) : Word :=
  packWord [(e.count, 0), (bit e.pretrig, 16), (bit e.fcsBad, 17), (bit e.seq, 18), (bit e.mark, 19),
    (bit e.intReq, 20), (bit e.tagInvalid, 21)]

/-- The 16 bytes of a completion entry posted with a phase at a counter value, little-endian (R2, R124). -/
def Completion.bytes (e : Completion) (phase : Bool) (time : DWord) : List Byte :=
  wordBytes [e.word0 phase, e.word1, e.word2, loWord time]

/-! ### Records (R70, R72) -/

/-- A flag of the FLAGS byte (TABLE 5-2). -/
def Record.ts (r : Record) : Bool := r.flags.getLsbD 0

/-- See `Record.ts`. -/
def Record.mark (r : Record) : Bool := r.flags.getLsbD 1

/-- See `Record.ts`. -/
def Record.fcsBad (r : Record) : Bool := r.flags.getLsbD 2

/-- See `Record.ts`. -/
def Record.seqFlag (r : Record) : Bool := r.flags.getLsbD 3 || r.flags.getLsbD 4

/-- See `Record.ts`. -/
def Record.pretrig (r : Record) : Bool := r.flags.getLsbD 6

/-- The 16 header bytes of a record on route `route` (TABLE 5-1). -/
def Record.headerBytes (r : Record) (route : Fin 16) : List Byte :=
  leBytes 2 r.length ++ [r.flags, BitVec.ofNat 8 r.lane.val, r.mIdx, BitVec.ofNat 8 route.val]
    ++ leBytes 2 r.seq.toNat ++ leBytes 4 r.serial.toNat ++ leBytes 4 r.flen

/-! ### Events (R145, R148) -/

/-- The class of a cause, and whether the class is essential (R146). -/
def eventClass (cause : Byte) : Nat := cause.toNat / 16

/-- See `eventClass`. -/
def essential (cause : Byte) : Bool :=
  eventClass cause == 1 || eventClass cause == 5 || eventClass cause == 6 || eventClass cause == 8
    || eventClass cause == 9 || eventClass cause == 10

/-- An entry is a loss marker (R148). -/
def Event.isMarker (e : Event) : Bool := e.cause == 0xF0#8

/-- Word w0 of an event (R145). -/
def Event.word0 (e : Event) : Word := packWord [(e.cause.toNat, 0), (e.source.toNat, 8), (e.seq.toNat, 16)]

end Sys2Proof.Machine
end

