-- ==== Sys2Proof/Machine/Flags.lean ====
section
/-! DEFINITION. The flags and status words computed from other state: record flags, the interrupt status,
identity and request, the device status and the buffer manager's status. -/

namespace Sys2Proof.Machine

/-- The verdict on a frame's FCS (R47, R48). -/
inductive FcsVerdict where
  | none | good | bad
deriving DecidableEq, Repr

/-- The verdict of a sequence check (R63). -/
inductive SeqVerdict where
  | none | gap | back
deriving DecidableEq, Repr

/-- The frame took at least one mark (R45). -/
def FrameCtx.marked (f : FrameCtx) : Bool := f.markMask != 0#4

/-- The FLAGS byte of a record (TABLE 5-2). -/
def recordFlags (ts : Bool) (f : FrameCtx) (fcs : FcsVerdict) (sq : SeqVerdict) (pretrig : Bool) : Byte :=
  BitVec.ofNat 8
    (bit ts + 2 * bit f.marked + 4 * bit (fcs == .bad) + 8 * bit (sq == .gap) + 16 * bit (sq == .back)
      + 32 * bit f.coast + 64 * bit pretrig + 128 * bit f.inv)

/-- INTSTAT bit 2 (R152): some line has both FLAG and IE at 1, whatever its direction. -/
def trigPending (s : State) : Bool := s.trigs.toList.any (fun t => t.flag && t.ie)

/-- The five bits of INTSTAT (R152). -/
def intStat (s : State) : BitVec 5 :=
  BitVec.ofNat 5
    (bit (!s.ev.queue.isEmpty) + 2 * bit s.irq.compl + 4 * bit (trigPending s) + 8 * bit s.irq.tick
      + 16 * bit s.irq.sync)

/-- The sources that are both pending and enabled (R153). -/
def intActive (s : State) : BitVec 5 := intStat s &&& s.irq.inten

/-- INTIDENT (R153): 1 plus the bit number of the lowest-numbered pending enabled source, 0 if none. -/
def intIdent (s : State) : Nat :=
  if (intActive s).getLsbD 0 then 1
  else if (intActive s).getLsbD 1 then 2
  else if (intActive s).getLsbD 2 then 3
  else if (intActive s).getLsbD 3 then 4
  else if (intActive s).getLsbD 4 then 5
  else 0

/-- The interrupt request as step 8 evaluates it (R154). -/
def intRequest (s : State) : Bool := s.host.intMaster && intActive s != 0#5

/-- DEVSTAT (R12). -/
def devStat (s : State) : Word :=
  packWord [(bit s.ctl.loading, 0), (bit s.ctl.resetBusy, 1), (bit s.ctl.quiescing, 2),
    (bit s.ctl.quiesced, 3), (bit (!s.eng.backlog.isEmpty), 4), (bit s.buf.shed, 5),
    (bit s.buf.exhausted, 6)]

/-- BSTAT (R86). -/
def bufStat (s : State) : Word :=
  packWord [(bit s.buf.shed, 0), (bit s.buf.exhausted, 1), (s.buf.lowFree, 16)]

/-- The completion ring is full (R126). -/
def ringFull (s : State) : Bool := (s.eng.crprod - s.eng.crcons).toNat == 2 ^ s.eng.crsize.toNat

end Sys2Proof.Machine
end

