-- ==== Sys2Proof/Machine/Memory.lean ====
section
/-! DEFINITION. Buffer memory (R68): the byte at an address, one byte's write, and the bytes of a chain. -/

namespace Sys2Proof.Machine

/-- What an unlisted address reads as (log entry 6). No occurrence reads a byte that nothing has written. -/
def Memory.blank : Byte := 0

/-- The byte at an address. -/
def Memory.read : Memory → Nat → Byte
  | [], _ => Memory.blank
  | (a, b) :: rest, x => if x = a then b else if x < a then Memory.blank else Memory.read rest x

/-- Put a byte at an address, keeping the addresses rising and no entry equal to `Memory.blank`. -/
def Memory.write : Memory → Nat → Byte → Memory
  | [], x, v => if v = Memory.blank then [] else [(x, v)]
  | (a, b) :: rest, x, v =>
    if x = a then (if v = Memory.blank then rest else (x, v) :: rest)
    else if x < a then (if v = Memory.blank then (a, b) :: rest else (x, v) :: (a, b) :: rest)
    else (a, b) :: Memory.write rest x v

/-- Addresses rise strictly from above `lo`, and no entry is blank. -/
def Memory.wfFrom (lo : Nat) : Memory → Bool
  | [] => true
  | (a, b) :: rest => lo ≤ a && b != Memory.blank && Memory.wfFrom (a + 1) rest

/-- The canonical form: addresses strictly rising, and no entry equal to what an unlisted address reads as. -/
def Memory.wf (m : Memory) : Bool := Memory.wfFrom 0 m

/-- The address of byte `off` of a chain: 2048 bytes per block, in chain order (R68). None beyond its end. -/
def chainAddr (chain : List Nat) (off : Nat) : Option Nat :=
  (chain[off / Config.blockBytes]?).map (fun b => b * Config.blockBytes + off % Config.blockBytes)

/-- Write a byte at an offset of a chain. The blocks of a record are exactly those it needs (R71), so an
offset beyond the chain does not arise; nothing is written there. -/
def Memory.writeChain (m : Memory) (chain : List Nat) (off : Nat) (v : Byte) : Memory :=
  match chainAddr chain off with
  | some a => m.write a v
  | none => m

/-- Write consecutive bytes from an offset of a chain on. -/
def Memory.writeBytes (chain : List Nat) : List Byte → Nat → Memory → Memory
  | [], _, m => m
  | v :: vs, off, m => Memory.writeBytes chain vs (off + 1) (m.writeChain chain off v)

/-- The byte at an offset of a chain. -/
def Memory.readChain (m : Memory) (chain : List Nat) (off : Nat) : Byte :=
  match chainAddr chain off with
  | some a => m.read a
  | none => Memory.blank

end Sys2Proof.Machine
end

