-- ==== Sys2Proof/Machine/Ops.lean ====
section
/-! DEFINITION. The named operations every family shares: reading and replacing one lane, route, line or
entry; counting; posting an event (R147, R148); held blocks, release and flow (R84, R85, R78, R143);
pulses (R142); and what comes to a frame's marks (R49). -/

namespace Sys2Proof.Machine

/-! ### One lane, route, line or entry -/

/-- Lane n. -/
def State.lane (s : State) (n : Fin 4) : Lane := s.lanes[n.val]

/-- Lane n replaced. -/
def State.setLane (s : State) (n : Fin 4) (l : Lane) : State := { s with lanes := s.lanes.set n.val l }

/-- Lane n changed. -/
def State.modLane (s : State) (n : Fin 4) (f : Lane → Lane) : State := s.setLane n (f (s.lane n))

/-- Route r. -/
def State.route (s : State) (r : Fin 16) : Route := s.routes[r.val]

/-- Route r replaced. -/
def State.setRoute (s : State) (r : Fin 16) (x : Route) : State := { s with routes := s.routes.set r.val x }

/-- Route r changed. -/
def State.modRoute (s : State) (r : Fin 16) (f : Route → Route) : State := s.setRoute r (f (s.route r))

/-- Trigger line n. -/
def State.trig (s : State) (n : Fin 4) : Trig := s.trigs[n.val]

/-- Trigger line n replaced. -/
def State.setTrig (s : State) (n : Fin 4) (t : Trig) : State := { s with trigs := s.trigs.set n.val t }

/-- Trigger line n changed. -/
def State.modTrig (s : State) (n : Fin 4) (f : Trig → Trig) : State := s.setTrig n (f (s.trig n))

/-- Match entry i. -/
def State.entry (s : State) (i : Fin 32) : MatchEntry := s.table[i.val]

/-- Match entry i replaced. -/
def State.setEntry (s : State) (i : Fin 32) (e : MatchEntry) : State := { s with table := s.table.set i.val e }

/-- The lanes, the routes, the lines and the match entries in ascending order. -/
def allLanes : List (Fin 4) := [0, 1, 2, 3]

/-- See `allLanes`. -/
def allRoutes : List (Fin 16) := [0, 1, 2, 3, 4, 5, 6, 7, 8, 9, 10, 11, 12, 13, 14, 15]

/-- See `allLanes`. -/
def allEntries : List (Fin 32) :=
  [0, 1, 2, 3, 4, 5, 6, 7, 8, 9, 10, 11, 12, 13, 14, 15, 16, 17, 18, 19, 20, 21, 22, 23, 24, 25, 26, 27, 28,
    29, 30, 31]

/-! ### Counters (R33, R106) -/

/-- A lane counter. -/
def Lane.counter (l : Lane) (c : LaneCtr) : Word := l.ctr[(laneCtrIdx c).val]

/-- The lane with a counter increased by one, wrapping (R2). -/
def Lane.count (l : Lane) (c : LaneCtr) : Lane :=
  { l with ctr := l.ctr.set (laneCtrIdx c).val (l.counter c + 1) }

/-- Count on a lane. -/
def bumpLane (n : Fin 4) (c : LaneCtr) (s : State) : State := s.modLane n (fun l => l.count c)

/-- A route counter. -/
def Route.counter (r : Route) (c : RouteCtr) : Word := r.ctr[(routeCtrIdx c).val]

/-- The route with k added to a counter, wrapping (R2). -/
def Route.count (r : Route) (c : RouteCtr) (k : Nat) : Route :=
  { r with ctr := r.ctr.set (routeCtrIdx c).val (r.counter c + BitVec.ofNat 32 k) }

/-- Count on a route. -/
def bumpRoute (r : Fin 16) (c : RouteCtr) (s : State) : State := s.modRoute r (fun x => x.count c 1)

/-! ### Posting an event -/

/-- What the event queue does with a generated event (R148): queue it, or merge it into the newest entry if
that is a loss marker, or append a new loss marker. -/
def enqueueEvent (q : List Event) (e : Event) : List Event :=
  if q.length < (if essential e.cause then Config.essentialBudget else Config.routineBudget) then q ++ [e]
  else
    match q.getLast? with
    | some m =>
      if m.isMarker then
        q.dropLast ++
          [{ m with
              a := if m.a = 0xFFFFFFFF#32 then m.a else m.a + 1
              b := m.b ||| BitVec.ofNat 32 (2 ^ eventClass e.cause) }]
      else if q.length < Config.eventDepth then
        q ++ [{ cause := 0xF0, source := noSource, seq := e.seq, time := e.time, a := 1,
                b := BitVec.ofNat 32 (2 ^ eventClass e.cause) }]
      else q
    | none => q

/-- Generate an event (R147): it takes the next SEQ and the low half of the reference counter, the sequence
counter advances, and the queue decides on it. -/
def post (cause source : Byte) (a b : Word) (s : State) : State :=
  { s with
    ev :=
      { queue :=
          enqueueEvent s.ev.queue
            { cause := cause, source := source, seq := s.ev.seq, time := loWord s.tb.ref, a := a, b := b }
        seq := s.ev.seq + 1 } }

/-! ### Held blocks, release, flow -/

/-- The chain a lane's frame in assembly holds for a route, empty if none (R84). -/
def Lane.chainFor (l : Lane) (r : Fin 16) : List Nat :=
  match l.frame with
  | some f =>
    match f.fate with
    | .admitted t => if t.route = r then t.chain else []
    | _ => []
  | none => []

/-- The lane's frame is in assembly for the route: admitted to it and not withdrawn (R80, R101). -/
def Lane.assembling (l : Lane) (r : Fin 16) : Bool :=
  match l.frame with
  | some f =>
    match f.fate with
    | .admitted t => t.route == r
    | _ => false
  | none => false

/-- The frames in assembly for a route (R80). -/
def framesFor (s : State) (r : Fin 16) : Nat := (allLanes.filter (fun n => (s.lane n).assembling r)).length

/-- A route's held blocks (R84): those of its frames in assembly and of its queued records. -/
def held (s : State) (r : Fin 16) : Nat :=
  (allLanes.map (fun n => ((s.lane n).chainFor r).length)).sum
    + ((s.route r).queue.map (fun x => x.chain.length)).sum

/-- The FLOW state of a line evaluated against h held blocks (R143). -/
def Trig.evalFlow (t : Trig) (h : Nat) : Trig :=
  if t.offLevel ≤ h then { t with flow := false }
  else if h ≤ t.onLevel then { t with flow := true }
  else t

/-- The FLOW state of a line set anew against h held blocks (R143). -/
def Trig.setFlow (t : Trig) (h : Nat) : Trig := { t with flow := decide (h < t.offLevel) }

/-- Every FLOW output on route r is evaluated (R143). -/
def flowEval (r : Fin 16) (s : State) : State :=
  { s with trigs := mapVec (fun t => if t.flowing && t.route == r then t.evalFlow (held s r) else t) s.trigs }

/-- The SHED clearing test (R78). `report` is false in the application of a preset list, which posts no event of
its own (R171; log entry 34). -/
def shedTest (report : Bool) (s : State) : State :=
  if s.buf.shed ∧ s.buf.bshed.toNat + Config.shedHysteresis ≤ s.buf.free.length then
    let s := { s with buf := { s.buf with shed := false } }
    if report then
      post 0x41 noSource (BitVec.ofNat 32 s.buf.free.length) (BitVec.ofNat 32 s.buf.bshed.toNat) s
    else s
  else s

/-- Release a chain that has just left its frame or its record on route r (R85): its blocks join the tail of
the free list, then the SHED test and the FLOW evaluation are made. -/
def releaseChain (r : Fin 16) (chain : List Nat) (s : State) : State :=
  flowEval r (shedTest true { s with buf := { s.buf with free := s.buf.free ++ chain } })

/-! ### Pulses (R142) -/

/-- The line with its pulse started or restarted. -/
def Trig.startPulse (t : Trig) : Trig := { t with pulse := t.width, pulseFresh := true }

/-- An occurrence of pulse source `src` (0 tick, 1 SYNC edge, 2 shed start). -/
def pulseSource (src : Nat) (s : State) : State :=
  { s with trigs := mapVec (fun t => if t.pulsing && t.psrc == src then t.startPulse else t) s.trigs }

/-- The start of route r, as pulse source 3. -/
def pulseRouteStart (r : Fin 16) (s : State) : State :=
  { s with
    trigs := mapVec (fun t => if t.pulsing && t.psrc == 3 && t.route == r then t.startPulse else t) s.trigs }

/-! ### Marks and records -/

/-- A frame of lane n that took marks does not deliver them (R49). -/
def loseMarks (n : Fin 4) (marked : Bool) (s : State) : State :=
  if marked then bumpLane n .marksLost s else s

/-- The fate of lane n's frame is settled. -/
def setFate (n : Fin 4) (fate : Fate) (s : State) : State :=
  s.modLane n (fun l => { l with frame := l.frame.map (fun f => { f with fate := fate }) })

/-- The record at the head of route r's queue leaves it and its chain is released; `lost` says that its
marks, if it carries any, do not reach the host (R75, R101, R120). -/
def dropHead (r : Fin 16) (lost : Bool) (s : State) : State :=
  match (s.route r).queue with
  | [] => s
  | x :: rest =>
    releaseChain r x.chain
      (loseMarks x.lane (lost && x.mark) (s.modRoute r (fun t => { t with queue := rest })))

/-! ### Bus-master transactions (R13) -/

/-- A transaction is handed to the host link. -/
def issue (t : BusTxn) (s : State) : State := { s with bus := s.bus ++ [t] }

/-- The host link is not refusing writes: no boot load and no device reset is in progress (R8). -/
def writable (s : State) : Bool := !s.ctl.loading && !s.ctl.resetBusy

end Sys2Proof.Machine
end

