-- ==== Sys2Proof/Machine/RouteMoves.lean ====
section
/-! DEFINITION. The changes of route state that several blocks cause: entry to RUNNING by a start (R95, R96)
and entry to STOPPING (R97, R98). -/

namespace Sys2Proof.Machine

/-- Entry to RUNNING (R95): the budget count restarts. -/
def enterRunning (r : Fin 16) (s : State) : State :=
  s.modRoute r (fun t => { t with st := .running, rbcnt := 0 })

/-- A start of route r, by a command (`line = none`) or by a trigger line (R95, R96): entry to RUNNING, event
0x50, and the route-start pulse source. -/
def startRoute (r : Fin 16) (line : Option (Fin 4)) (s : State) : State :=
  let detailA :=
    match line with
    | none => packWord [(0, 0), (0xFF, 8)]
    | some n => packWord [(1, 0), (n.val, 8)]
  let detailB := packWord [((s.route r).queue.length, 0), (routeCode (s.route r).st, 16)]
  pulseRouteStart r (post 0x50 (srcIdx r) detailA detailB (enterRunning r s))

/-- Entry to STOPPING (R98). -/
def enterStopping (r : Fin 16) (s : State) : State := s.modRoute r (fun t => { t with st := .stopping })

/-- What a trigger edge of line n does to route r (R96, R105). -/
def triggerRoute (n : Fin 4) (t : Trig) (s : State) (r : Fin 16) : State :=
  match (s.route r).st with
  | .armed => if t.starts r && !s.ctl.quiesced then startRoute r (some n) s else s
  | .running =>
    if t.stops r then
      post 0x54 (srcIdx r) (BitVec.ofNat 32 n.val) (BitVec.ofNat 32 (s.route r).queue.length)
        (enterStopping r s)
    else s
  | _ => s

end Sys2Proof.Machine
end

