-- ==== Sys2Proof/Machine/Admission.lean ====
section
/-! DEFINITION. Classification (R53 to R59), admission (R73 to R81), the sequence check (R62 to R64) and
finalization (R82, R83): what the header extent and the frame end do with a delivered frame. -/

namespace Sys2Proof.Machine

/-! ### The record a frame will be (R70, R71) -/

/-- Stored body bytes of a frame of length L on a route: STRIP_FCS leaves out the FCS. -/
def storedLen (t : Route) (l : Lane) (L : Nat) : Nat := if t.stripFcs then L - l.fcsLen else L

/-- Where the stored body begins in the record. -/
def bodyOffset (t : Route) (marked : Bool) : Nat := 16 + 8 * bit t.timestamp + 8 * bit marked

/-- The record length. -/
def recordLen (t : Route) (l : Lane) (marked : Bool) (L : Nat) : Nat := bodyOffset t marked + storedLen t l L

/-- The block need B of a record length. -/
def blockNeed (len : Nat) : Nat := (len + (Config.blockBytes - 1)) / Config.blockBytes

/-- Store body bytes of lane n's admitted frame, the first of them body byte `k`, at their places in the
chain (R46, R80). Bytes that STRIP_FCS removes are not stored. -/
def storeBody (n : Fin 4) (k : Nat) (bytes : List Byte) (s : State) : State :=
  match (s.lane n).frame, (s.lane n).asm with
  | some f, some a =>
    match f.fate, a.len with
    | .admitted t, some L =>
      { s with
        buf :=
          { s.buf with
            mem :=
              Memory.writeBytes t.chain (bytes.take (storedLen (s.route t.route) (s.lane n) L - k))
                (bodyOffset (s.route t.route) f.marked + k) s.buf.mem } }
    | _, _ => s
  | _, _ => s

/-! ### Refusal and discard -/

/-- Lane n's frame is discarded or refused: it is stored nowhere and its marks are lost (R58, R81, R49). -/
def dropFrame (n : Fin 4) (s : State) : State :=
  match (s.lane n).frame with
  | some f => loseMarks n f.marked (setFate n .dropped s)
  | none => s

/-- The frame is refused by route r with the reason its counter names (R81). -/
def refuse (n : Fin 4) (r : Fin 16) (c : RouteCtr) (s : State) : State := dropFrame n (bumpRoute r c s)

/-! ### Admission (R73) -/

/-- What the gate and the route state refuse the frame with (R74). -/
def gateRefusal (s : State) (r : Fin 16) : Option RouteCtr :=
  if s.ctl.quiescing || s.ctl.quiesced then some .refQuiesce
  else
    match (s.route r).st with
    | .running => none
    | .armed => if (s.route r).pretrigLimit = 0 then some .refClosed else none
    | .disabled | .stopping | .aborting => some .refClosed
    | .halted => some .refHalted

/-- An eviction (R75): the oldest record of the route is removed. -/
def evictOldest (r : Fin 16) (s : State) : State :=
  match (s.route r).queue with
  | [] => s
  | _ :: _ => dropHead r true (bumpRoute r .evicted s)

/-- Evict, oldest first, while `more` holds and a record is queued; at most k times. -/
def evictWhile (more : State → Bool) (r : Fin 16) : Nat → State → State
  | 0, s => s
  | k + 1, s =>
    if more s && !(s.route r).queue.isEmpty then evictWhile more r k (evictOldest r s) else s

/-- The evictions of the quota check on an ARMED route (R76). -/
def quotaEvict (r : Fin 16) (B : Nat) (s : State) : State :=
  if (s.route r).st = .armed then
    evictWhile (fun u => decide ((u.route r).quota < held u r + B)) r (s.route r).queue.length s
  else s

/-- A refusal for QUOTA, with event 0x43 once per episode (R76). -/
def refuseQuota (n : Fin 4) (r : Fin 16) (B : Nat) (s : State) : State :=
  refuse n r .refQuota
    (if (s.route r).quotaEp then s
     else
      post 0x43 (srcIdx r) (BitVec.ofNat 32 (held s r)) (packWord [(B, 0), (n.val, 16)])
        (s.modRoute r (fun t => { t with quotaEp := true })))

/-- The level a route's class is held to (R77). -/
def classLevel (s : State) (r : Fin 16) : Nat :=
  if (s.route r).high then s.buf.breserve.toNat else s.buf.bshed.toNat

/-- A refusal for THRESHOLD, with the start of an episode (R77); the start of SHED is pulse source 2. -/
def refuseThreshold (n : Fin 4) (r : Fin 16) (B : Nat) (s : State) : State :=
  let detailA := BitVec.ofNat 32 s.buf.free.length
  let detailB := packWord [(B, 0), (n.val, 16)]
  refuse n r .refThreshold
    (if (s.route r).high then
      (if s.buf.exhausted then s
       else post 0x42 (srcIdx r) detailA detailB { s with buf := { s.buf with exhausted := true } })
     else
      (if s.buf.shed then s
       else
        pulseSource 2
          (post 0x40 (srcIdx r) detailA detailB { s with buf := { s.buf with shed := true } })))

/-- The evictions of the retention limit on an ARMED route (R79). -/
def retainEvict (r : Fin 16) (s : State) : State :=
  if (s.route r).st = .armed then
    evictWhile
      (fun u => decide ((u.route r).pretrigLimit ≤ (u.route r).queue.length + framesFor u r)) r
      (s.route r).queue.length s
  else s

/-- The frame budget counts an admission in RUNNING, and stops the route when it is used up (R97). -/
def countBudget (n : Fin 4) (r : Fin 16) (s : State) : State :=
  let t := s.route r
  if t.st = .running ∧ t.budget ≠ 0 then
    let s := s.modRoute r (fun x => { x with rbcnt := x.rbcnt + 1 })
    if t.rbcnt + 1 = t.budget then
      post 0x53 (srcIdx r) (BitVec.ofNat 32 t.budget) (BitVec.ofNat 32 n.val) (enterStopping r s)
    else s
  else s

/-- Take B blocks from the head of the free list (R69, R80). -/
def takeBlocks (B : Nat) (s : State) : State :=
  { s with
    buf :=
      { s.buf with
        free := s.buf.free.drop B
        lowFree := min s.buf.lowFree (s.buf.free.length - B) } }

/-- The reservation (R80) for lane n's frame, whose ticket lacks only its chain. -/
def reserve (n : Fin 4) (t : Ticket) (B : Nat) (s : State) : State :=
  let chain := s.buf.free.take B
  let pretrig := (s.route t.route).st == .armed
  let high := (s.route t.route).high
  let s := setFate n (.admitted { t with chain := chain, pretrig := pretrig }) (takeBlocks B s)
  let s := s.modRoute t.route (fun x => ({ x with quotaEp := false }).count .admitted 1)
  let s := if high then { s with buf := { s.buf with exhausted := false } } else s
  let s := countBudget n t.route s
  let s := storeBody n 0 (match (s.lane n).asm with | some a => a.head | none => []) s
  flowEval t.route s

/-- The admission of lane n's frame of length L (R73): the checks in their order, the first that refuses
ending the decision. -/
def admitFrame (n : Fin 4) (L : Nat) (t : Ticket) (s : State) : State :=
  let r := t.route
  match gateRefusal s r with
  | some c => refuse n r c s
  | none =>
    let marked := match (s.lane n).frame with | some f => f.marked | none => false
    let B := blockNeed (recordLen (s.route r) (s.lane n) marked L)
    let s := quotaEvict r B s
    if (s.route r).quota < held s r + B then refuseQuota n r B s
    else if s.buf.free.length < classLevel s r + B then refuseThreshold n r B s
    else reserve n t B (retainEvict r s)

/-! ### Classification (R53 to R59) -/

/-- The tag (R53). -/
def tagOf (l : Lane) (head : List Byte) : Byte := head.getD l.tagOff 0

/-- The sequence value (R53), big-endian; 0 for a lane without a sequence field. -/
def seqOf (l : Lane) (head : List Byte) : BitVec 16 :=
  BitVec.ofNat 16 (beNat ((head.drop l.seqOff).take l.seqWidth))

/-- Entry e accepts lane n and tag t (R56). -/
def MatchEntry.accepts (e : MatchEntry) (n : Fin 4) (t : Byte) : Bool :=
  e.valid && e.lanes.getLsbD n.val && (t &&& e.tagMask) == (e.tagVal &&& e.tagMask)

/-- The winning entry (R56): the lowest-numbered one that matches. -/
def winner (s : State) (n : Fin 4) (t : Byte) : Option (Fin 32) :=
  allEntries.find? (fun i => (s.entry i).accepts n t)

/-- The classification of lane n's frame of length L with header bytes `head` (R56 to R59). -/
def classify (n : Fin 4) (L : Nat) (head : List Byte) (s : State) : State :=
  let l := s.lane n
  match winner s n (tagOf l head) with
  | some i =>
    let e := s.entry i
    let s := s.setEntry i { e with hits := e.hits + 1 }
    if e.discard then dropFrame n s
    else
      admitFrame n L
        { route := e.route, mIdx := BitVec.ofNat 8 i.val, seq := seqOf l head, gen := some e.gen,
          seqChk := e.seqChk, chain := [], pretrig := false } s
  | none =>
    if l.defDiscard then dropFrame n (bumpLane n .unmatched s)
    else
      admitFrame n L
        { route := l.defRoute, mIdx := 0xFF, seq := seqOf l head, gen := none, seqChk := false, chain := [],
          pretrig := false } s

/-! ### The sequence check (R62 to R64) -/

/-- The match entry whose expectation an admitted frame is to be checked against, if R62's conditions all
hold. -/
def seqEntry (s : State) (l : Lane) (t : Ticket) (v : FcsVerdict) : Option (Fin 32) :=
  match t.gen with
  | none => none
  | some g =>
    if h : t.mIdx.toNat < 32 then
      let e := s.entry ⟨t.mIdx.toNat, h⟩
      if t.seqChk && l.seqWidth != 0 && v != .bad && e.gen == g && e.valid then some ⟨t.mIdx.toNat, h⟩
      else none
    else none

/-- The outcome of a check of value `sv` at width w against the expectation (R63). -/
def seqJudge (e : MatchEntry) (w : Nat) (sv : BitVec 16) : SeqVerdict :=
  if !e.synced then .none
  else
    let d := (sv.toNat + 2 ^ w - e.expected.toNat % 2 ^ w) % 2 ^ w
    if d = 0 then .none else if d < 2 ^ (w - 1) then .gap else .back

/-- The sequence check at lane n's frame end (R62 to R64), with its verdict. -/
def seqCheck (n : Fin 4) (t : Ticket) (v : FcsVerdict) (s : State) : State × SeqVerdict :=
  let l := s.lane n
  match seqEntry s l t v with
  | none => (s, .none)
  | some i =>
    let e := s.entry i
    let w := 8 * l.seqWidth
    let detailA := BitVec.ofNat 32 (e.expected.toNat % 2 ^ w)
    let detailB := packWord [(t.seq.toNat, 0), (n.val, 16), (t.route.val, 24)]
    let s' := s.setEntry i { e with expected := BitVec.ofNat 16 ((t.seq.toNat + 1) % 2 ^ w), synced := true }
    match seqJudge e w t.seq with
    | .none => (s', .none)
    | .gap => (post 0x30 (srcIdx i) detailA detailB s', .gap)
    | .back => (post 0x31 (srcIdx i) detailA detailB s, .back)

/-! ### Finalization (R82, R83) -/

/-- The frame of lane n leaves assembly. -/
def closeFrame (n : Fin 4) (s : State) : State := s.modLane n (fun l => { l with frame := none })

/-- A frame discarded at finalization (R82): its chain is released, its marks are lost. -/
def discardFrame (n : Fin 4) (f : FrameCtx) (t : Ticket) (c : RouteCtr) (s : State) : State :=
  releaseChain t.route t.chain (loseMarks n f.marked (bumpRoute t.route c (closeFrame n s)))

/-- The record a committed frame becomes (R70, R72). -/
def commitRecord (s : State) (n : Fin 4) (f : FrameCtx) (t : Ticket) (L : Nat) (v : FcsVerdict)
    (q : SeqVerdict) : Record :=
  let x := s.route t.route
  { chain := t.chain
    length := recordLen x (s.lane n) f.marked L
    flags := recordFlags x.timestamp f v q t.pretrig
    lane := n
    mIdx := t.mIdx
    seq := t.seq
    serial := x.serial
    flen := L }

/-- The bytes in front of the stored body: the header, the timestamp part, the mark part (R70, R71). -/
def frontBytes (x : Record) (t : Ticket) (f : FrameCtx) : List Byte :=
  x.headerBytes t.route ++ (if x.ts then leBytes 8 f.stamp.toNat else [])
    ++ (if f.marked then
          [BitVec.ofNat 8 f.markMask.toNat, 0, 0, 0] ++ leBytes 4 (loWord f.markTime).toNat
        else [])

/-- Commit (R83): the record takes the route's next serial and joins the tail of the queue, and its header
and optional parts are written in front of the stored body. -/
def commitFrame (n : Fin 4) (f : FrameCtx) (t : Ticket) (L : Nat) (v : FcsVerdict) (q : SeqVerdict)
    (s : State) : State :=
  let x := commitRecord s n f t L v q
  let s := closeFrame n s
  let s :=
    { s with buf := { s.buf with mem := Memory.writeBytes t.chain (frontBytes x t f) 0 s.buf.mem } }
  s.modRoute t.route (fun y => { y with serial := y.serial + 1, queue := y.queue ++ [x] })

/-- Finalization (R82) of lane n's admitted frame of length L. -/
def finalize (n : Fin 4) (f : FrameCtx) (t : Ticket) (L : Nat) (v : FcsVerdict) (s : State) : State :=
  let (s, q) := seqCheck n t v s
  let x := s.route t.route
  if v = .bad ∧ x.keepErrored = false then discardFrame n f t .fcsDiscarded s
  else if q = .back ∧ x.dropRetro = true then discardFrame n f t .retroDiscarded s
  else commitFrame n f t L v q s

end Sys2Proof.Machine
end

