-- ==== Sys2Proof/Machine/Sync.lean ====
section
/-! DEFINITION. The frame synchronizer (R35 to R52): the comparison, the lock states, the framing of bodies,
the FCS, frame start and frame end, abandonment, and what one bit handed over does. -/

namespace Sys2Proof.Machine

/-! ### The frame check sequence (R48) -/

/-- Width and generator constant of the lane's FCS: CRC16 for two bytes, CRC32 for four. -/
def crcWidth (F : Nat) : Nat := if F = 2 then 16 else 32

/-- See `crcWidth`. -/
def crcPoly (F : Nat) : Word := if F = 2 then 0x00001021#32 else 0x04C11DB7#32

/-- The start value: every bit 1. -/
def crcStart (F : Nat) : Word := maskOf 0 (crcWidth F)

/-- One bit enters the register. -/
def crcBit (F : Nat) (reg : Word) (b : Bool) : Word :=
  let shifted := (reg <<< 1) &&& maskOf 0 (crcWidth F)
  if reg.getLsbD (crcWidth F - 1) ^^ b then shifted ^^^ crcPoly F else shifted

/-- One byte enters the register, from bit 7 down to bit 0. -/
def crcByte (F : Nat) (reg : Word) (b : Byte) : Word :=
  [7, 6, 5, 4, 3, 2, 1, 0].foldl (fun acc i => crcBit F acc (b.getLsbD i)) reg

/-- The check value of a register that has taken every covered byte: CRC32 is inverted. -/
def crcValue (F : Nat) (reg : Word) : Word := if F = 2 then reg else ~~~reg

/-- The check value over given covered bytes (R48). -/
def crcOf (F : Nat) (bytes : List Byte) : Word := crcValue F (bytes.foldl (crcByte F) (crcStart F))

/-- The FCS verdict at the frame end: the register's check value against the F bytes still delayed. -/
def fcsVerdict (F : Nat) (a : Assembly) : FcsVerdict :=
  if F = 0 then .none
  else if (crcValue F a.fcs).toNat = beNat a.delay then .good
  else .bad

/-! ### The comparison (R36) -/

/-- How many of the low `n` bits of a word are 1. -/
def onesIn (x : Word) : Nat → Nat
  | 0 => 0
  | k + 1 => bit (x.getLsbD k) + onesIn x k

/-- The history of S bits matches the pattern to within T bits. -/
def Lane.matchesSync (l : Lane) : Bool :=
  l.histLen == l.syncLen && onesIn (l.hist ^^^ l.lsync) l.syncLen ≤ l.tol

/-! ### Entry to SEARCH, bodies, frame start -/

/-- Entry to SEARCH (R35): cold empties the bit history, warm keeps it. -/
def Lane.toSearch (l : Lane) (cold : Bool) : Lane :=
  { l with
    st := .search
    verifyCnt := 0
    missCnt := 0
    dwell := 0
    asm := none
    frame := none
    cmpDue := false
    dwellEnd := if cold then false else l.dwellEnd
    hist := if cold then 0 else l.hist
    histLen := if cold then 0 else l.histLen }

/-- A body begins at the next bit; in FIXED mode its length is known (R42). -/
def Lane.beginBody (l : Lane) : Lane :=
  { l with
    asm :=
      some
        { phase := .body, nbytes := 0, nbits := 0, cur := 0,
          len := if l.lengthMode then none else some l.fixLen,
          hdrDone := false, fcs := crcStart l.fcsLen, delay := [], head := [] } }

/-- The marks pending for the lane as a trigger mask (R45). -/
def Lane.markMask (l : Lane) : BitVec 4 :=
  BitVec.ofNat 4
    (bit l.marks[0].isSome + 2 * bit l.marks[1].isSome + 4 * bit l.marks[2].isSome
      + 8 * bit l.marks[3].isSome)

/-- The earliest of the pending edge times (R140), 0 if none is pending. -/
def Lane.markTime (l : Lane) : DWord :=
  match l.marks.toList.filterMap id with
  | [] => 0
  | t :: ts => ts.foldl (fun m x => if x.toNat < m.toNat then x else m) t

/-- Every pending-mark cell emptied. -/
def Lane.clearMarks (l : Lane) : Lane := { l with marks := Vector.replicate 4 none }

/-- A frame start (R45) followed by its body: the frame takes the reference counter, every pending mark and
the polarity state. -/
def frameStart (n : Fin 4) (coast : Bool) (s : State) : State :=
  s.modLane n (fun l =>
    ({ l with
        frame :=
          some
            { stamp := s.tb.ref, markMask := l.markMask, markTime := l.markTime, inv := l.pol,
              coast := coast, fate := .undecided } } : Lane).clearMarks.beginBody)

/-- Lock acquisition at this bit (R39): LOCKED, a frame start, event 0x20. -/
def acquireLock (n : Fin 4) (s : State) : State :=
  let l := s.lane n
  post 0x20 (srcIdx n) (BitVec.ofNat 32 (bit l.pol)) l.dwell
    (frameStart n false (s.modLane n (fun l => { l with st := .locked, missCnt := 0 })))

/-- Lock lost by sync misses (R41). -/
def loseLock (n : Fin 4) (s : State) : State :=
  let left := laneCode (s.lane n).st
  post 0x21 (srcIdx n) 1 (BitVec.ofNat 32 left)
    (s.modLane n (fun l => (l.toSearch false).count .lockLoss))

/-! ### Occurrences of one bit -/

/-- R37: the comparison in SEARCH. -/
def syncFoundAt (n : Fin 4) (s : State) : State :=
  let l := s.lane n
  if l.st = .search ∧ l.cmpDue = true then
    if l.matchesSync then
      if l.verifyGoal = 1 then acquireLock n (s.modLane n (fun l => { l with cmpDue := false }))
      else
        s.modLane n (fun l =>
          ({ l with st := .verify, verifyCnt := 1, cmpDue := false } : Lane).beginBody)
    else s.modLane n (fun l => { l with cmpDue := false })
  else s

/-- The last bit of an expected sync position has been handed over. -/
def Lane.positionDue (l : Lane) : Bool :=
  match l.asm with
  | some a => a.phase == .sync && l.syncLen ≤ a.nbits
  | none => false

/-- R38, R40, R41: the comparison at an expected sync position. -/
def syncPositionAt (n : Fin 4) (s : State) : State :=
  let l := s.lane n
  if l.positionDue then
    match l.st with
    | .verify =>
      if l.matchesSync then
        if l.verifyCnt + 1 < l.verifyGoal then
          s.modLane n (fun l => ({ l with verifyCnt := l.verifyCnt + 1 } : Lane).beginBody)
        else acquireLock n s
      else s.modLane n (fun l => l.toSearch false)
    | .locked =>
      if l.matchesSync then frameStart n false s
      else if 2 ≤ l.coastLimit then
        frameStart n true (s.modLane n (fun l => { l with st := .coast, missCnt := 1 }))
      else loseLock n s
    | .coast =>
      if l.matchesSync then
        frameStart n false (s.modLane n (fun l => { l with st := .locked, missCnt := 0 }))
      else if l.missCnt + 1 < l.coastLimit then
        frameStart n true (s.modLane n (fun l => { l with missCnt := l.missCnt + 1 }))
      else loseLock n s
    | _ => s
  else s

/-- The last bit of body byte H - 1 has been handed over and the header extent has not been acted on. -/
def Lane.headerDue (l : Lane) : Bool :=
  match l.asm with
  | some a => a.phase == .body && !a.hdrDone && a.nbits == 0 && a.nbytes == l.hdrExtent
  | none => false

/-- The length that LENGTH mode computes from the header (R42). -/
def Lane.fieldLength (l : Lane) (head : List Byte) : Int :=
  (beNat ((head.drop l.lenOff).take l.lenWidth) : Int) + l.lenAdjust

/-- A computed length in error (R43). -/
def Lane.lengthBad (l : Lane) (L : Int) : Bool :=
  decide (L < (max 4 (max l.hdrExtent (l.fcsLen + 1)) : Nat)) || decide (4096 < L)

/-- A length error (R43). -/
def lengthError (n : Fin 4) (L : Int) (s : State) : State :=
  let l := s.lane n
  let left := BitVec.ofNat 32 (laneCode l.st)
  let marked := match l.frame with | some f => f.marked | none => false
  let s := loseMarks n marked (s.modLane n (fun l => (l.toSearch false).count .lenErr))
  let s := post 0x25 (srcIdx n) (BitVec.ofInt 32 L) left s
  if l.st = .locked ∨ l.st = .coast then post 0x21 (srcIdx n) 2 left (bumpLane n .lockLoss s) else s

/-- The header extent with L known: a delivered frame is classified and admitted; a VERIFY body is only
framed (R38, R46). -/
def headerKnown (n : Fin 4) (L : Nat) (head : List Byte) (s : State) : State :=
  let s :=
    s.modLane n (fun l => { l with asm := l.asm.map (fun a => { a with len := some L, hdrDone := true }) })
  if (s.lane n).frame.isSome then classify n L head s else s

/-- R46: the header extent of a body. -/
def headerExtentAt (n : Fin 4) (s : State) : State :=
  let l := s.lane n
  if l.headerDue then
    match l.asm with
    | some a =>
      if l.lengthMode then
        if l.lengthBad (l.fieldLength a.head) then lengthError n (l.fieldLength a.head) s
        else headerKnown n (l.fieldLength a.head).toNat a.head s
      else headerKnown n l.fixLen a.head s
    | none => s
  else s

/-- The last bit of the L-th byte has been handed over, after the header extent was acted on. -/
def Lane.frameEndDue (l : Lane) : Bool :=
  match l.asm with
  | some a => a.phase == .body && a.hdrDone && a.nbits == 0 && a.len == some a.nbytes
  | none => false

/-- The SYNC phase of the next expected position begins (R47). -/
def Lane.toSyncPhase (l : Lane) : Lane :=
  { l with asm := l.asm.map (fun a => { a with phase := .sync, nbits := 0 }), frame := none }

/-- R47: the frame end. -/
def frameEndAt (n : Fin 4) (s : State) : State :=
  let l := s.lane n
  if l.frameEndDue then
    match l.asm, l.frame with
    | some a, some f =>
      let v := fcsVerdict l.fcsLen a
      let s := bumpLane n (if v = .bad then .fcsBad else .good) s
      let s :=
        match f.fate with
        | .admitted t => finalize n f t a.nbytes v s
        | _ => s
      s.modLane n Lane.toSyncPhase
    | _, _ => s.modLane n Lane.toSyncPhase
  else s

/-- The last bit brought the dwell count to D x 4096 and, processed in full, left the lane in SEARCH or VERIFY, in
AUTO mode on the line (R44). A warm entry to SEARCH at that bit restarts the count, not the flip
(log entry 26). -/
def Lane.flipDue (l : Lane) : Bool :=
  (l.st == .search || l.st == .verify) && l.polMode == 0 && !l.inject && l.dwellEnd

/-- R44: the polarity flips, once the bit that brought the count there has been processed. -/
def flipAt (n : Fin 4) (s : State) : State :=
  if (s.lane n).flipDue then
    let s := s.modLane n (fun l => ({ l with pol := !l.pol } : Lane).toSearch true)
    post 0x22 (srcIdx n) (BitVec.ofNat 32 (bit (s.lane n).pol)) 0 s
  else s

/-- The occurrences that the lane's last bit causes, apart from the polarity flip, each if it is due and has
not been carried out (R35: each bit is processed to completion before the next one). -/
def settleSync (n : Fin 4) (s : State) : State :=
  syncFoundAt n (syncPositionAt n (frameEndAt n (headerExtentAt n s)))

/-- All occurrences that the lane's last bit causes. -/
def settleLane (n : Fin 4) (s : State) : State := flipAt n (settleSync n s)

/-! ### One bit handed over (R33, R35) -/

/-- The byte as it stands with one more bit (R29). -/
def Lane.shiftByte (l : Lane) (cur : Byte) (b : Bool) : Byte :=
  if l.lsbFirst then (cur >>> 1) ||| (if b then 0x80#8 else 0) else (cur <<< 1) ||| (if b then 1 else 0)

/-- A body byte enters the FCS: the register takes the byte that leaves the delay of F bytes (R48). -/
def Assembly.takeFcs (a : Assembly) (F : Nat) (b : Byte) : Assembly :=
  match a.delay ++ [b] with
  | [] => a
  | d :: ds => if ds.length < F then { a with delay := d :: ds } else { a with delay := ds, fcs := crcByte F a.fcs d }

/-- A whole body byte of lane n: it is counted, kept as a header byte, taken by the FCS and, for an admitted
frame, stored (R46, R80). -/
def bodyByte (n : Fin 4) (b : Byte) (s : State) : State :=
  let l := s.lane n
  match l.asm with
  | none => s
  | some a =>
    let a' :=
      ({ a with
          nbytes := a.nbytes + 1, nbits := 0, cur := 0,
          head := if a.nbytes < l.hdrExtent then a.head ++ [b] else a.head } : Assembly).takeFcs l.fcsLen b
    storeBody n a.nbytes [b] (s.modLane n (fun l => { l with asm := some a' }))

/-- A bit of the phase in progress. -/
def phaseBit (n : Fin 4) (b : Bool) (s : State) : State :=
  let l := s.lane n
  match l.asm with
  | none => s
  | some a =>
    let cur := l.shiftByte a.cur b
    match a.phase with
    | .sync => s.modLane n (fun l => { l with asm := some { a with nbits := a.nbits + 1 } })
    | .body =>
      if a.nbits = 7 then bodyByte n cur s
      else s.modLane n (fun l => { l with asm := some { a with nbits := a.nbits + 1, cur := cur } })

/-- The bit enters the history and the tallies (R33, R34, R35), and the dwell count in SEARCH and VERIFY (R44). -/
def Lane.takeBit (l : Lane) (b : Bool) : Lane :=
  let S := l.syncLen
  let full := l.tally + 1 == 8
  let counts := (l.st == .search || l.st == .verify) && l.dwell != 0xFFFFFFFF#32
  let dwell := if counts then l.dwell + 1 else l.dwell
  let l :=
    { l with
      hist := ((l.hist <<< 1) ||| (if b then 1 else 0)) &&& maskOf 0 S
      histLen := min S (l.histLen + 1)
      tally := if full then 0 else l.tally + 1
      rateTally := if full then l.rateTally + 1 else l.rateTally
      dwell := dwell
      dwellEnd := counts && dwell.toNat == l.dwellLimit * 4096 }
  if full then l.count .bytes else l

/-- One bit is handed to the synchronizer of lane n: the last bit is processed to completion first (R35). -/
def handBit (n : Fin 4) (b : Bool) (s : State) : State :=
  let s := settleLane n s
  let s := s.modLane n (fun l => l.takeBit b)
  let l := s.lane n
  if l.st = .search then s.modLane n (fun l => { l with cmpDue := l.histLen == l.syncLen })
  else phaseBit n b s

/-! ### Abandonment (R50) -/

/-- The frame in assembly of lane n, if it has one, is abandoned; a VERIFY body is dropped without count. -/
def abandon (n : Fin 4) (s : State) : State :=
  let f? := (s.lane n).frame
  let s := s.modLane n (fun l => { l with asm := none, frame := none })
  match f? with
  | none => s
  | some f =>
    match f.fate with
    | .withdrawn => s
    | .undecided => loseMarks n f.marked (bumpLane n .abandoned s)
    | .dropped => bumpLane n .abandoned s
    | .admitted t => loseMarks n f.marked (bumpLane n .abandoned (releaseChain t.route t.chain s))

/-- POLARITY_FLIPPED (R44): the bit that brought the count there is first processed in full. -/
def flipRow (n : Fin 4) (s : State) : State := if (s.lane n).flipDue then flipAt n (settleSync n s) else s

end Sys2Proof.Machine
end

