-- ==== Sys2Proof/Machine/LaneRx.lean ====
section
/-! DEFINITION. The lane receivers (R18 to R34): enable, the configuration check and disable, configuration
writes, the clock watchdog, sampled bits and the inject path, and LANE_RESYNC (R51). -/

namespace Sys2Proof.Machine

/-- The lane starts (R25): cold entry to SEARCH, polarity from POLMODE and SOURCE, byte tally and watchdog
from zero, inject FIFO empty. -/
def Lane.start (l : Lane) : Lane :=
  ({ l with pol := l.startPol, tally := 0, wdog := 0, fifo := [], feed := none } : Lane).toSearch true

/-- Lane n becomes OFF (R26). -/
def disableLane (n : Fin 4) (s : State) : State :=
  (abandon n s).modLane n (fun l =>
    { (l.toSearch true).clearMarks with st := .off, fifo := [], feed := none, wdog := 0, tally := 0 })

/-- The check of R24 on an OFF lane, and its outcome; `report` says whether event 0x93 is posted (R171). The
second component is whether the check passed. -/
def enableLane (n : Fin 4) (report : Bool) (s : State) : State × Bool :=
  let l := s.lane n
  let code := l.checkCode
  let s := s.modLane n (fun l => { l with lastChk := BitVec.ofNat 3 code })
  if code = 0 then (s.modLane n Lane.start, true)
  else
    (if report then post 0x93 (srcIdx n) (BitVec.ofNat 32 code) (BitVec.ofNat 32 l.hdrExtent) s else s, false)

/-- The window offset of a lane's configuration word (R18). -/
def laneRegOffset (n : Fin 4) : LaneReg → Nat
  | .lctl => 0x100 + 64 * n.val
  | .lsync => 0x104 + 64 * n.val
  | .lfmt => 0x108 + 64 * n.val
  | .lhdr => 0x10C + 64 * n.val

/-- Event 0x91 WRITE_WHILE_ACTIVE, unless the writer is the preset list (R22, R90, R114, R125, R171). -/
def refuseWrite (report : Bool) (source : Byte) (offset : Nat) (data : Word) (s : State) : State :=
  if report then post 0x91 source (BitVec.ofNat 32 offset) data s else s

/-- A write to LSYNC, LFMT, LHDR or LCTL (R22, R23). The second component is whether the write was accepted:
not refused by R22 and not an enable that failed its check (R171). -/
def writeLaneReg (n : Fin 4) (reg : LaneReg) (data : Word) (report : Bool) (s : State) : State × Bool :=
  let l := s.lane n
  let new := laneRegValue reg (l.reg reg) data
  match reg with
  | .lctl =>
    if l.st = .off then
      let s := s.setLane n (l.withReg .lctl new)
      if data.getLsbD 0 then enableLane n report s else (s, true)
    else
      let same := new == l.lctl
      let s := if same then s else refuseWrite report (srcIdx n) (laneRegOffset n .lctl) data s
      (if data.getLsbD 0 then s else disableLane n s, same)
  | reg =>
    if l.st = .off then (s.setLane n (l.withReg reg new), true)
    else (refuseWrite report (srcIdx n) (laneRegOffset n reg) data s, false)

/-- A write to LINJC (R21, R31). -/
def writeLinjc (n : Fin 4) (data : Word) (s : State) : State :=
  let v := fieldOf data 0 3
  if 1 ≤ v ∧ v ≤ 4 then s.modLane n (fun l => { l with linjc := BitVec.ofNat 3 v }) else s

/-- The bytes a LINJ write offers, first byte from bits 0-7 (R31). -/
def Lane.offered (l : Lane) (data : Word) : List Byte := leBytes l.linjc.toNat data.toNat

/-- A write to LINJ (R31). -/
def writeLinj (n : Fin 4) (data : Word) (s : State) : State :=
  let l := s.lane n
  if l.st ≠ .off ∧ l.inject = true then
    let bytes := l.offered data
    let taken := bytes.take (Config.injectDepth - l.fifo.length)
    let s := s.modLane n (fun l => { l with fifo := l.fifo ++ taken })
    if taken.length < bytes.length then
      post 0x26 (srcIdx n) (BitVec.ofNat 32 (bytes.length - taken.length)) (BitVec.ofNat 32 taken.length) s
    else s
  else s

/-! ### The clock (R27, R28) -/

/-- The lane is receiving: enabled and not NOCLOCK (R35). -/
def Lane.receiving (l : Lane) : Bool := l.st != .off && l.st != .noclock

/-- The watchdog of R27 has counted its limit on an enabled line-fed lane. -/
def Lane.clockDead (l : Lane) : Bool := l.receiving && !l.inject && Config.clockLimit ≤ l.wdog

/-- CLOCK_LOST (R27). While RESET_BUSY is 1 the watchdog does not count (R178). -/
def clockLostAt (n : Fin 4) (s : State) : State :=
  if (s.lane n).clockDead ∧ s.ctl.resetBusy = false then
    let left := laneCode (s.lane n).st
    let s := (abandon n s).modLane n (fun l => { l.toSearch true with st := .noclock, tally := 0 })
    post 0x23 (srcIdx n) (BitVec.ofNat 32 left) 0 s
  else s

/-- CLOCK_RESTORED (R28). -/
def clockRestoredAt (n : Fin 4) (s : State) : State :=
  if (s.lane n).st = .noclock ∧ s.ctl.resetBusy = false then
    post 0x24 (srcIdx n) 0 0 (s.modLane n (fun l => { l.toSearch true with wdog := 0 }))
  else s

/-! ### Bits (R29, R32) -/

/-- An LnCLK edge in the given direction is the one EDGE selects for sampling (R29). -/
def Lane.activeEdge (l : Lane) (rising : Bool) : Bool := rising != l.fallingEdge

/-- LANE_BIT_SAMPLED (R29): every edge of a line-fed lane restarts its watchdog (R27), and at an active edge the
level of LnDAT, corrected for polarity, is the next bit. No bit is sampled while the lane is OFF or NOCLOCK,
or while RESET_BUSY is 1 (R178). -/
def clockEdge (n : Fin 4) (rising level : Bool) (s : State) : State :=
  if (s.lane n).receiving = true ∧ (s.lane n).inject = false ∧ s.ctl.resetBusy = false then
    let s := s.modLane n (fun l => { l with wdog := 0 })
    if (s.lane n).activeEdge rising then
      let s := settleLane n s
      handBit n (level ^^ (s.lane n).pol) s
    else s
  else s

/-- The bit of a byte that is handed over k-th (R29, R32). -/
def Lane.feedBit (l : Lane) (b : Byte) (k : Nat) : Bool := b.getLsbD (if l.lsbFirst then k else 7 - k)

/-- INJECT_BIT_FEED (R32): with no byte feeding the head byte leaves the FIFO and begins feeding; the next
bit of the byte being fed is handed over. With nothing to feed the stream pauses. -/
def feedAt (n : Fin 4) (s : State) : State :=
  if (s.lane n).receiving = true ∧ (s.lane n).inject = true ∧ s.ctl.resetBusy = false then
    let l := s.lane n
    match l.feed, l.fifo with
    | some (b, k), _ =>
      handBit n (l.feedBit b k)
        (s.modLane n (fun l => { l with feed := if k + 1 < 8 then some (b, k + 1) else none }))
    | none, b :: rest =>
      handBit n (l.feedBit b 0) (s.modLane n (fun l => { l with fifo := rest, feed := some (b, 1) }))
    | none, [] => s
  else s

end Sys2Proof.Machine
end

