-- ==== Sys2Proof/Machine/Timebase.lean ====
section
/-! DEFINITION. The timebase and the trigger port (R129 to R144): the input filters, SYNC edges, the epoch
load, the periodic tick, trigger edges and marks, and the trigger lines' configuration and pulses. -/

namespace Sys2Proof.Machine

/-! ### The epoch load (R135) -/

/-- EPOCH as a 64-bit value. -/
def Timebase.epoch (t : Timebase) : DWord := pairWords t.epochLo t.epochHi

/-- The reference counter takes EPOCH, both halves at once (R135). -/
def loadEpoch (s : State) : State := { s with tb := { s.tb with ref := s.tb.epoch } }

/-- The load an armed SYNC edge makes (R132, step 1): counter, EPOCH_ARM, event 0x71. -/
def armedLoad (s : State) : State :=
  if s.tb.armed then
    let old := s.tb.ref
    let s := loadEpoch s
    post 0x71 noSource (loWord old) (hiWord old) { s with tb := { s.tb with armed := false } }
  else s

/-! ### SYNC (R131, R132, R134) -/

/-- Whether a SYNC transition is active (R131). -/
def syncActive (s : State) (rising : Bool) : Bool := s.tb.syncFalling != rising

/-- An active SYNC edge (R132), its six actions in order. -/
def actSync (s : State) : State :=
  let s := armedLoad s
  let s := { s with tb := { s.tb with syncCap := s.tb.ref } }
  let s := { s with irq := { s.irq with sync := true } }
  let s := if s.tb.syncEvt then post 0x70 noSource (loWord s.tb.syncCap) (hiWord s.tb.syncCap) s else s
  let s := { s with tb := { s.tb with wdog := 0 } }
  let s :=
    if s.tb.present then s
    else
      post 0x73 noSource (loWord s.tb.syncCap) (hiWord s.tb.syncCap)
        { s with tb := { s.tb with present := true } }
  pulseSource 1 s

/-- The filter takes a level: its sampled and its filtered level (R131). -/
def Filter.take (f : Filter) (level : Bool) : Filter := { f with level := some level, now := some level }

/-- A level seen at two consecutive samples is an accepted transition (R131): it differs from the filtered level,
and the sample before this one is not known to be the filtered level. Two accepted transitions are therefore at
least 2 ticks apart. -/
def Filter.accepts (f : Filter) (level : Bool) : Bool := f.level == some (!level) && f.last != some (!level)

/-- The filtered SYNC level becomes `level`, and the transition acts if it is active. -/
def acceptSync (level : Bool) (s : State) : State :=
  let s' := { s with tb := { s.tb with filter := s.tb.filter.take level } }
  if syncActive s level then actSync s' else s'

/-- The SYNC filter sees `level` (R131). No level is sampled during the boot load (R172), and the first sample
loads the filter with no transition. -/
def sampleSync (level : Bool) (s : State) : State :=
  if s.ctl.loading then s
  else if s.tb.filter.level = none then { s with tb := { s.tb with filter := s.tb.filter.take level } }
  else if s.tb.filter.accepts level then acceptSync level s
  else s

/-- SYNC_MISSING (R134). -/
def syncMissingAt (s : State) : State :=
  if Config.syncLimit ≤ s.tb.wdog ∧ s.tb.present = true then
    post 0x72 noSource (loWord s.tb.syncCap) (hiWord s.tb.syncCap)
      { s with tb := { s.tb with present := false } }
  else s

/-! ### The periodic tick (R136) -/

/-- The low 22 bits of the counter are 0, and no power-on or host reset acts in this tick. -/
def tickDue (s : State) : Bool := s.tb.ref.toNat % 2 ^ 22 == 0 && !s.ctl.resetTick

/-- LRATE takes the rate tally, which restarts (R34). -/
def Lane.latchRate (l : Lane) : Lane := { l with lrate := l.rateTally, rateTally := 0 }

/-- PERIODIC_TICK (R136). -/
def periodicTickAt (s : State) : State :=
  if tickDue s then
    pulseSource 0 { s with lanes := mapVec Lane.latchRate s.lanes, irq := { s.irq with tick := true } }
  else s

/-! ### Trigger edges (R139, R140) -/

/-- The pending-mark cell of one lane at an edge of line n with time t (R140). -/
def Lane.markBy (l : Lane) (n : Fin 4) (t : DWord) : Lane :=
  if l.st = .off then l
  else
    match l.marks[n.val] with
    | none => { l with marks := l.marks.set n.val (some t) }
    | some _ => l

/-- The line's mark mask is applied (R140). -/
def applyMarks (n : Fin 4) (s : State) : State :=
  allLanes.foldl
    (fun s k => if (s.trig n).marksLane k then s.modLane k (fun l => l.markBy n s.tb.ref) else s) s

/-- The line's start and stop masks are applied in ascending route number (R96, R139). -/
def applyRoutes (n : Fin 4) (s : State) : State := allRoutes.foldl (fun s r => triggerRoute n (s.trig n) s r) s

/-- An active edge on input line n (R139), its five actions in order. -/
def actTrigger (n : Fin 4) (rising : Bool) (s : State) : State :=
  let s := s.modTrig n (fun t => { t with time := s.tb.ref, edges := t.edges + 1, flag := true, flagNow := true })
  let t := s.trig n
  let s :=
    if t.ee then
      post 0x74 (srcIdx n) (packWord [(bit (!rising), 0), (t.edges.toNat, 16)]) (loWord t.time) s
    else s
  applyRoutes n (applyMarks n s)

/-- The filtered level of input line n becomes `level`, and the transition acts if it is active and no device
reset is busy (R131, R178). -/
def acceptTrigger (n : Fin 4) (level : Bool) (s : State) : State :=
  let s' := s.modTrig n (fun t => { t with filter := t.filter.take level })
  if (s.trig n).selects level && !s.ctl.resetBusy then actTrigger n level s' else s'

/-- The filter of line n runs: the line is an input and the boot load has ended (R131, R172). -/
def filterRuns (n : Fin 4) (s : State) : Bool := !s.ctl.loading && !(s.trig n).out

/-- The filter of line n sees `level` (R131): its first sample loads it with no transition. -/
def sampleTrigger (n : Fin 4) (level : Bool) (s : State) : State :=
  if filterRuns n s then
    if (s.trig n).filter.level = none then s.modTrig n (fun t => { t with filter := t.filter.take level })
    else if (s.trig n).filter.accepts level then acceptTrigger n level s
    else s
  else s

/-- A level seen at two consecutive samples of an input (R131). -/
def sampleInput (i : Input) (level : Bool) (s : State) : State :=
  match i with
  | .sync => sampleSync level s
  | .trig n => sampleTrigger n level s

/-! ### Configuration of a trigger line (R138) -/

/-- The window offset of a trigger line's configuration word (R137). -/
def trigRegOffset (n : Fin 4) : TrigReg → Nat
  | .tgcfg => 0x200 + 16 * n.val
  | .tgarg => 0x204 + 16 * n.val

/-- What a change of TGCFG does to the line beside its fields (R138). -/
def Trig.reconfigure (old new : Trig) (h : Nat) : Trig :=
  let t := if new.pulsing then new else { new with pulse := 0, pulseFresh := false }
  let t := if old.out != new.out then { t with filter := Filter.empty } else t
  if new.flowing then
    (if old.flowing && old.route == new.route then t else t.setFlow h)
  else { t with flow := false }

/-- The marks of line n are cleared on every lane (R138, R140). -/
def clearLineMarks (n : Fin 4) (s : State) : State :=
  { s with lanes := mapVec (fun l => { l with marks := l.marks.set n.val none }) s.lanes }

/-- A write to TGCFG or TGARG (R138). A 1 in bit 15 clears FLAG unless an edge set it in this tick: the preset of a
reload acts behind the edges, and a set and a clear in one tick leave the flag set (R6, R171). -/
def writeTrig (n : Fin 4) (reg : TrigReg) (data : Word) (s : State) : State :=
  let t := s.trig n
  match reg with
  | .tgcfg =>
    let new :=
      { t with cfg := trigCfgValue t.cfg data, flag := t.flag && (!data.getLsbD 15 || t.flagNow) }
    let s := s.setTrig n (t.reconfigure new (held s new.route))
    if !t.out && new.out then clearLineMarks n s else s
  | .tgarg =>
    let new := { t with arg := data }
    s.setTrig n (if t.flowing && t.arg != data then new.setFlow (held s new.route) else new)

/-! ### Pulses and pins (R141, R142) -/

/-- PULSE_END (R142): the last tick of a pulse that no source set in this tick ends; the output becomes
inactive. -/
def pulseEndAt (n : Fin 4) (s : State) : State :=
  let t := s.trig n
  if t.pulsing = true ∧ t.pulse = 1 ∧ t.pulseFresh = false then
    let t := { t with pulse := 0 }
    s.setTrig n { t with driven := some t.outLevel }
  else s

/-- The sample of this tick becomes the last one (R131). -/
def Filter.endTick (f : Filter) : Filter := { f with last := f.now, now := none }

/-- The end of a tick at one line: its FLAG no longer counts as set in this tick (R6), a running pulse not set in this
tick loses one tick, an output's pin takes the level of its mode, and the filter moves on to the next sample (R131,
R141, R142). -/
def Trig.endTick (t : Trig) : Trig :=
  let t :=
    { t with
      flagNow := false, filter := t.filter.endTick
      pulse := if t.pulseFresh then t.pulse else t.pulse - 1, pulseFresh := false }
  { t with driven := if t.out then some t.outLevel else none }

/-- The level PIN shows (R137): filtered for IN, driven for OUT. -/
def Trig.pin (t : Trig) (line tick : Nat) : Bool :=
  ((if t.out then t.driven else t.filter.level)).getD (Config.openPin line tick)

end Sys2Proof.Machine
end

