-- ==== Sys2Proof/Machine/Resets.lean ====
section
/-! DEFINITION. The three resets (R175 to R178): power-on reset, host reset, device reset, and the end of a
device reset. -/

namespace Sys2Proof.Machine

/-- POWER_ON_RESET (R175): every piece of state takes its power-on value. What has gone out on the host link,
and the commands still waiting, are not state of the SF-4. An output's pin is released in this step, not at the end of
the tick (log entry 37). -/
def powerOnReset (s : State) : State :=
  { State.reset with bus := s.bus, hostData := s.hostData, pending := s.pending }

/-- HOST_RESET (R176): the values of a power-on reset, but the reference counter counts on and SLB keeps its
value. Outstanding reads are outstanding no longer, and a store operation is dropped without a report. An output's
pin is released in this step, not at the end of the tick (log entry 37). -/
def hostReset (s : State) : State :=
  { State.reset with
    tb := { Timebase.reset with ref := s.tb.ref }
    store := { Store.reset with slb := s.store.slb }
    bus := s.bus
    hostData := s.hostData
    pending := s.pending }

/-! ### Device reset (R177) -/

/-- A lane at a device reset (R18, R19, R26, R30, R33, R34, R52, R140): configuration, LINJC and LASTCHK
kept; an enabled lane makes a cold entry to SEARCH. -/
def Lane.deviceReset (l : Lane) : Lane :=
  { (l.toSearch true).clearMarks with
    st := if l.st = .off then .off else .search
    pol := if l.st = .off then l.pol else l.startPol
    fifo := []
    feed := none
    wdog := 0
    tally := 0
    ctr := Vector.replicate 8 0
    lrate := 0
    rateTally := 0 }

/-- A match entry at a device reset (R67). -/
def MatchEntry.deviceReset (e : MatchEntry) : MatchEntry :=
  { e with expected := 0, synced := false, hits := 0 }

/-- The buffer manager at a device reset (R87): levels kept. -/
def BufMgr.deviceReset (b : BufMgr) : BufMgr :=
  { b with
    free := List.range' 0 Config.numBlocks, lowFree := Config.numBlocks, shed := false, exhausted := false }

/-- A route at a device reset (R107): configuration and RCSEL kept. -/
def Route.deviceReset (r : Route) : Route :=
  { Route.reset with
    rcfg := r.rcfg, rquota := r.rquota, rpretrig := r.rpretrig, rbudget := r.rbudget, rlinger := r.rlinger
    rrbaseLo := r.rrbaseLo, rrbaseHi := r.rrbaseHi, rcsel := r.rcsel }

/-- The engine at a device reset (R128): windows and ring configuration kept. -/
def Engine.deviceReset (e : Engine) : Engine :=
  { Engine.reset with
    windows := e.windows, crbaseLo := e.crbaseLo, crbaseHi := e.crbaseHi, crsize := e.crsize
    crEnable := e.crEnable }

/-- A trigger line at a device reset (R144): configuration and filtered level kept; latches and pulses
cleared; a FLOW output is evaluated with no block held. -/
def Trig.deviceReset (t : Trig) : Trig :=
  let t :=
    { t with
      flag := false, flagNow := false, edges := 0, time := 0, shadow := 0, pulse := 0, pulseFresh := false }
  if t.flowing then t.evalFlow 0 else t

/-- The interrupt unit at a device reset (R152 to R157): INTEN and CMPMOD kept. -/
def Interrupts.deviceReset (i : Interrupts) : Interrupts :=
  { Interrupts.reset with inten := i.inten, cmpCount := i.cmpCount, cmpTimer := i.cmpTimer }

/-- The command port at a device reset (R166): SNAPPAGE kept. -/
def CmdPort.deviceReset (c : CmdPort) : CmdPort := { CmdPort.reset with snapPage := c.snapPage }

/-- The store controller at a device reset (R168, R169): the operation in progress is dropped. -/
def Store.deviceReset (t : Store) : Store := { t with op := none, job := .idle }

/-- The reads outstanding now, stale ones included (R178). -/
def readsNow (s : State) : List OldRead :=
  allRoutes.filterMap (fun r => ((s.route r).read).map (fun q => { route := r, n := q.n, age := q.age }))

/-- Every piece of datapath state takes its device-reset value (R177, TABLE 12-1), and RESET_BUSY becomes 1. -/
def deviceReset (s : State) : State :=
  { s with
    host := { s.host with accerr := 0, shadowRef := 0, shadowSync := 0 }
    lanes := mapVec Lane.deviceReset s.lanes
    table := mapVec MatchEntry.deviceReset s.table
    buf := s.buf.deviceReset
    routes := mapVec Route.deviceReset s.routes
    eng := s.eng.deviceReset
    tb := { s.tb with armed := false }
    trigs := mapVec Trig.deviceReset s.trigs
    ev := { queue := [], seq := 0 }
    irq := s.irq.deviceReset
    cmd := s.cmd.deviceReset
    store := s.store.deviceReset
    ctl :=
      { s.ctl with
        resetBusy := true, quiescing := false, quiesced := false
        oldReads := readsNow s, readsAtReset := (readsNow s).length, readTimeouts := 0 } }

/-- A write to DEVCTL (R11): the RW fields take their values, a held message is dropped by a write that sets
INT_MODE to LINE (R17), INTL is released by one that sets it to MESSAGE (R154), and then RESET acts. -/
def writeDevctl (data : Word) (allowReset : Bool) (s : State) : State :=
  let s :=
    { s with
      host :=
        { s.host with
          masterEn := data.getLsbD 0, intMaster := data.getLsbD 1, intMode := data.getLsbD 2 }
      irq := { s.irq with held := s.irq.held && data.getLsbD 2, intl := s.irq.intl && !data.getLsbD 2 } }
  if data.getLsbD 31 && allowReset then deviceReset s else s

/-- An enabled lane starts as at enable when the reset ends (R178). -/
def Lane.restart (l : Lane) : Lane := if l.st = .off then l else l.start

/-- RESET_DONE (R178). -/
def resetDoneAt (s : State) : State :=
  if s.ctl.resetBusy = true ∧ s.ctl.oldReads = [] then
    let s :=
      post 0xA1 noSource (BitVec.ofNat 32 s.ctl.readsAtReset) (BitVec.ofNat 32 s.ctl.readTimeouts)
        { s with ctl := { s.ctl with resetBusy := false } }
    { s with lanes := mapVec Lane.restart s.lanes }
  else s

end Sys2Proof.Machine
end

