-- ==== Sys2Proof/Machine/Registers.lean ====
section
/-! DEFINITION. The register window (R3 to R12): which register an offset names, what a read returns, what a
write does for the host and for the preset list, and the rows that are one host access. -/

namespace Sys2Proof.Machine

/-- The registers of the window. -/
inductive Reg where
  | devid | devctl | devstat | accerr | refLo | refHi | epochLo | epochHi | syncCapLo | syncCapHi | tbctl
  | tbstat
  | intstat | inten | intident | cmpmod | cmpstat
  | cmdarg0 | cmdarg1 | cmdissue | cmdstat | snappage | snapinfo | snaptimeLo | snaptimeHi
  | evw (k : Fin 4) | evpop | evstat
  | lane (n : Fin 4) (r : LaneReg) | lstat (n : Fin 4) | lrate (n : Fin 4) | linjc (n : Fin 4)
  | linj (n : Fin 4) | laneCtr (n : Fin 4) (k : Fin 8)
  | trig (n : Fin 4) (r : TrigReg) | tgtimeLo (n : Fin 4) | tgtimeHi (n : Fin 4)
  | window (w : Fin 4) (r : WindowReg)
  | bfree | bshed | breserve | bstat
  | crbase (h : BaseHalf) | crcfg | crprod | crcons | crback
  | route (r : Fin 16) (w : RouteReg) | rpost (r : Fin 16) | rdone (r : Fin 16) | rfetch (r : Fin 16)
  | rstat0 (r : Fin 16) | rstat1 (r : Fin 16) | rcsel (r : Fin 16) | rcval (r : Fin 16)
  | rserial (r : Fin 16) | rbcnt (r : Fin 16)
  | matchA (i : Fin 32) | matchB (i : Fin 32) | hits (i : Fin 32)
  | ident (k : Fin 6) | stslb | ststat
  | snap (k : Fin 128)
deriving DecidableEq, Repr

/-! ### Offsets (R3 and the tables of the owning chapters) -/

/-- The word of a lane block at byte `o` (R18). -/
def laneReg (n : Fin 4) (o : Nat) : Option Reg :=
  match o / 4 with
  | 0 => some (.lane n .lctl)
  | 1 => some (.lane n .lsync)
  | 2 => some (.lane n .lfmt)
  | 3 => some (.lane n .lhdr)
  | 4 => some (.lstat n)
  | 5 => some (.lrate n)
  | 6 => some (.linjc n)
  | 7 => some (.linj n)
  | k + 8 => if h : k < 8 then some (.laneCtr n ⟨k, h⟩) else none

/-- The word of a route block at byte `o` (R88). -/
def routeReg (r : Fin 16) (o : Nat) : Option Reg :=
  match o / 4 with
  | 0 => some (.route r .rcfg)
  | 1 => some (.route r .rquota)
  | 2 => some (.route r .rpretrig)
  | 3 => some (.route r .rbudget)
  | 4 => some (.route r .rlinger)
  | 5 => some (.route r .rrbaseLo)
  | 6 => some (.route r .rrbaseHi)
  | 7 => some (.rpost r)
  | 8 => some (.rdone r)
  | 9 => some (.rfetch r)
  | 10 => some (.rstat0 r)
  | 11 => some (.rstat1 r)
  | 12 => some (.rcsel r)
  | 13 => some (.rcval r)
  | 14 => some (.rserial r)
  | 15 => some (.rbcnt r)
  | _ => none

/-- The words of the regions below the lanes, by word number: device, interrupts, commands, events
(TABLE 1-2, R152, R158, R149). -/
def lowReg (k : Nat) : Option Reg :=
  match k with
  | 0 => some .devid
  | 1 => some .devctl
  | 2 => some .devstat
  | 3 => some .accerr
  | 4 => some .refLo
  | 5 => some .refHi
  | 6 => some .epochLo
  | 7 => some .epochHi
  | 8 => some .syncCapLo
  | 9 => some .syncCapHi
  | 10 => some .tbctl
  | 11 => some .tbstat
  | 16 => some .intstat
  | 17 => some .inten
  | 18 => some .intident
  | 19 => some .cmpmod
  | 20 => some .cmpstat
  | 32 => some .cmdarg0
  | 33 => some .cmdarg1
  | 34 => some .cmdissue
  | 35 => some .cmdstat
  | 36 => some .snappage
  | 37 => some .snapinfo
  | 38 => some .snaptimeLo
  | 39 => some .snaptimeHi
  | 48 => some (.evw 0)
  | 49 => some (.evw 1)
  | 50 => some (.evw 2)
  | 51 => some (.evw 3)
  | 52 => some .evpop
  | 53 => some .evstat
  | _ => none

/-- The words of the buffer-manager and completion-ring regions, by word number from 0x280 (R86, R125). -/
def midReg (k : Nat) : Option Reg :=
  match k with
  | 0 => some .bfree
  | 1 => some .bshed
  | 2 => some .breserve
  | 3 => some .bstat
  | 16 => some (.crbase .lo)
  | 17 => some (.crbase .hi)
  | 18 => some .crcfg
  | 19 => some .crprod
  | 20 => some .crcons
  | 21 => some .crback
  | _ => none

/-- The word of a trigger line's block at byte `o` (R137). -/
def trigReg (n : Fin 4) (o : Nat) : Option Reg :=
  match o / 4 with
  | 0 => some (.trig n .tgcfg)
  | 1 => some (.trig n .tgarg)
  | 2 => some (.tgtimeLo n)
  | 3 => some (.tgtimeHi n)
  | _ => none

/-- The word of a fence window at byte `o` (R114). -/
def windowReg (w : Fin 4) (o : Nat) : Option Reg :=
  match o / 4 with
  | 0 => some (.window w .maskLo)
  | 1 => some (.window w .maskHi)
  | 2 => some (.window w .setLo)
  | 3 => some (.window w .setHi)
  | _ => none

/-- The register at a window offset; none where the offset has no register (R3, R5). -/
def regAt (o : Nat) : Option Reg :=
  if o % 4 ≠ 0 then none
  else if o < 0x100 then lowReg (o / 4)
  else if o < 0x200 then laneReg (Fin.ofNat 4 ((o - 0x100) / 64)) (o % 64)
  else if o < 0x240 then trigReg (Fin.ofNat 4 ((o - 0x200) / 16)) (o % 16)
  else if o < 0x280 then windowReg (Fin.ofNat 4 ((o - 0x240) / 16)) (o % 16)
  else if o < 0x300 then midReg ((o - 0x280) / 4)
  else if o < 0x400 then none
  else if o < 0x800 then routeReg (Fin.ofNat 16 ((o - 0x400) / 64)) (o % 64)
  else if o < 0x900 then
    some (if o % 8 = 0 then .matchA (Fin.ofNat 32 ((o - 0x800) / 8))
      else .matchB (Fin.ofNat 32 ((o - 0x800) / 8)))
  else if o < 0x980 then some (.hits (Fin.ofNat 32 ((o - 0x900) / 4)))
  else if o < 0xB00 then none
  else if o < 0xB18 then some (.ident (Fin.ofNat 6 ((o - 0xB00) / 4)))
  else if o = 0xB18 then some .stslb
  else if o = 0xB1C then some .ststat
  else if o < 0xC00 then none
  else if o < 0xE00 then some (.snap (Fin.ofNat 128 ((o - 0xC00) / 4)))
  else none

/-- The window offset of a register. -/
def regOffset : Reg → Nat
  | .devid => 0x000
  | .devctl => 0x004
  | .devstat => 0x008
  | .accerr => 0x00C
  | .refLo => 0x010
  | .refHi => 0x014
  | .epochLo => 0x018
  | .epochHi => 0x01C
  | .syncCapLo => 0x020
  | .syncCapHi => 0x024
  | .tbctl => 0x028
  | .tbstat => 0x02C
  | .intstat => 0x040
  | .inten => 0x044
  | .intident => 0x048
  | .cmpmod => 0x04C
  | .cmpstat => 0x050
  | .cmdarg0 => 0x080
  | .cmdarg1 => 0x084
  | .cmdissue => 0x088
  | .cmdstat => 0x08C
  | .snappage => 0x090
  | .snapinfo => 0x094
  | .snaptimeLo => 0x098
  | .snaptimeHi => 0x09C
  | .evw k => 0x0C0 + 4 * k.val
  | .evpop => 0x0D0
  | .evstat => 0x0D4
  | .lane n r => laneRegOffset n r
  | .lstat n => 0x110 + 64 * n.val
  | .lrate n => 0x114 + 64 * n.val
  | .linjc n => 0x118 + 64 * n.val
  | .linj n => 0x11C + 64 * n.val
  | .laneCtr n k => 0x120 + 64 * n.val + 4 * k.val
  | .trig n r => trigRegOffset n r
  | .tgtimeLo n => 0x208 + 16 * n.val
  | .tgtimeHi n => 0x20C + 16 * n.val
  | .window w .maskLo => 0x240 + 16 * w.val
  | .window w .maskHi => 0x244 + 16 * w.val
  | .window w .setLo => 0x248 + 16 * w.val
  | .window w .setHi => 0x24C + 16 * w.val
  | .bfree => 0x280
  | .bshed => 0x284
  | .breserve => 0x288
  | .bstat => 0x28C
  | .crbase .lo => 0x2C0
  | .crbase .hi => 0x2C4
  | .crcfg => 0x2C8
  | .crprod => 0x2CC
  | .crcons => 0x2D0
  | .crback => 0x2D4
  | .route r .rcfg => 0x400 + 64 * r.val
  | .route r .rquota => 0x404 + 64 * r.val
  | .route r .rpretrig => 0x408 + 64 * r.val
  | .route r .rbudget => 0x40C + 64 * r.val
  | .route r .rlinger => 0x410 + 64 * r.val
  | .route r .rrbaseLo => 0x414 + 64 * r.val
  | .route r .rrbaseHi => 0x418 + 64 * r.val
  | .rpost r => 0x41C + 64 * r.val
  | .rdone r => 0x420 + 64 * r.val
  | .rfetch r => 0x424 + 64 * r.val
  | .rstat0 r => 0x428 + 64 * r.val
  | .rstat1 r => 0x42C + 64 * r.val
  | .rcsel r => 0x430 + 64 * r.val
  | .rcval r => 0x434 + 64 * r.val
  | .rserial r => 0x438 + 64 * r.val
  | .rbcnt r => 0x43C + 64 * r.val
  | .matchA i => 0x800 + 8 * i.val
  | .matchB i => 0x804 + 8 * i.val
  | .hits i => 0x900 + 4 * i.val
  | .ident k => 0xB00 + 4 * k.val
  | .stslb => 0xB18
  | .ststat => 0xB1C
  | .snap k => 0xC00 + 4 * k.val

/-! ### Reads -/

/-- Word k of the snapshot area, on the page SNAPPAGE presents (R165). -/
def snapWord (c : CmdPort) (k : Fin 128) : Word :=
  if k.val < 32 then
    if c.snapPage then 0 else c.snapLanes[k.val / 8 % 4][k.val % 8]
  else
    c.snapRoutes[((k.val - 32) / 12 + (if c.snapPage then 8 else 0)) % 16][(k.val - 32) % 12]

/-- What a read of a register returns, as the state stands (R6, R7 and the owning rules). -/
def readReg (s : State) : Reg → Word
  | .devid => 0x5F040001
  | .devctl => packWord [(bit s.host.masterEn, 0), (bit s.host.intMaster, 1), (bit s.host.intMode, 2)]
  | .devstat => devStat s
  | .accerr => s.host.accerr
  | .refLo => loWord s.tb.ref
  | .refHi => s.host.shadowRef
  | .epochLo => s.tb.epochLo
  | .epochHi => s.tb.epochHi
  | .syncCapLo => loWord s.tb.syncCap
  | .syncCapHi => s.host.shadowSync
  | .tbctl => packWord [(bit s.tb.armed, 0), (bit s.tb.syncFalling, 1), (bit s.tb.syncEvt, 2)]
  | .tbstat => packWord [(bit s.tb.present, 0), (bit (s.tb.filter.level.getD false), 1)]
  | .intstat => (intStat s).setWidth 32
  | .inten => s.irq.inten.setWidth 32
  | .intident => BitVec.ofNat 32 (intIdent s)
  | .cmpmod => packWord [(s.irq.cmpCount.toNat, 0), (s.irq.cmpTimer.toNat, 16)]
  | .cmpstat => packWord [(s.irq.modCount.toNat, 0), (bit s.irq.modTimer.isSome, 8)]
  | .cmdarg0 => s.cmd.arg0
  | .cmdarg1 => s.cmd.arg1
  | .cmdissue => 0
  | .cmdstat =>
    match s.cmd.fifo.head? with
    | some c =>
      packWord [(s.cmd.fifo.length, 0), (bit s.cmd.busy, 4), (c.op.toNat, 8), (c.token.toNat, 16)]
    | none => 0
  | .snappage => BitVec.ofNat 32 (bit s.cmd.snapPage)
  | .snapinfo => s.cmd.snapInfo
  | .snaptimeLo => loWord s.cmd.snapTime
  | .snaptimeHi => hiWord s.cmd.snapTime
  | .evw k =>
    match s.ev.queue.head? with
    | some e => [e.word0, e.time, e.a, e.b].getD k.val 0
    | none => 0
  | .evpop => 0
  | .evstat =>
    packWord
      [(s.ev.queue.length, 0), (bit (s.ev.queue.getLast?.any Event.isMarker), 8), (s.ev.seq.toNat, 16)]
  | .lane n .lctl => (s.lane n).lctl ||| BitVec.ofNat 32 (bit ((s.lane n).st != .off))
  | .lane n r => (s.lane n).reg r
  | .lstat n =>
    let l := s.lane n
    packWord [(laneCode l.st, 0), (bit l.pol, 4), (l.fifo.length, 8), (l.lastChk.toNat, 16)]
  | .lrate n => (s.lane n).lrate
  | .linjc n => (s.lane n).linjc.setWidth 32
  | .linj _ => 0
  | .laneCtr n k => (s.lane n).ctr[k.val]
  | .trig n .tgcfg =>
    let t := s.trig n
    t.cfg ||| packWord [(bit (t.pin n.val s.tb.ref.toNat), 14), (bit t.flag, 15), (t.edges.toNat, 16)]
  | .trig n .tgarg => (s.trig n).arg
  | .tgtimeLo n => loWord (s.trig n).time
  | .tgtimeHi n => (s.trig n).shadow
  | .window w r => (s.eng.windows[w.val]).reg r
  | .bfree => BitVec.ofNat 32 s.buf.free.length
  | .bshed => s.buf.bshed.setWidth 32
  | .breserve => s.buf.breserve.setWidth 32
  | .bstat => bufStat s
  | .crbase .lo => s.eng.crbaseLo
  | .crbase .hi => s.eng.crbaseHi
  | .crcfg => packWord [(s.eng.crsize.toNat, 0), (bit s.eng.crEnable, 8)]
  | .crprod => packWord [(s.eng.crprod.toNat, 0), (bit s.eng.phase, 16)]
  | .crcons => s.eng.crcons.setWidth 32
  | .crback => BitVec.ofNat 32 s.eng.backlog.length
  | .route r w => (s.route r).reg w
  | .rpost r => (s.route r).rpost.setWidth 32
  | .rdone r => (s.route r).rdone.setWidth 32
  | .rfetch r => (s.route r).rfetch.setWidth 32
  | .rstat0 r =>
    let t := s.route r
    packWord [(routeCode t.st, 0), (routeCode t.hfrom, 4), (faultCode t.fault, 8), (t.fidx, 16)]
  | .rstat1 r => packWord [((s.route r).queue.length, 0), (held s r, 16)]
  | .rcsel r => (s.route r).rcsel.setWidth 32
  | .rcval r =>
    if h : (s.route r).rcsel.toNat < 12 then (s.route r).ctr[(s.route r).rcsel.toNat] else 0
  | .rserial r => (s.route r).serial
  | .rbcnt r => BitVec.ofNat 32 (s.route r).rbcnt
  | .matchA i =>
    let e := s.entry i
    packWord
      [(e.tagVal.toNat, 0), (e.tagMask.toNat, 8), (e.route.val, 16), (e.lanes.toNat, 24),
        (bit e.discard, 28), (bit e.seqChk, 29), (bit e.valid, 31)]
  | .matchB i =>
    let e := s.entry i
    packWord [(e.expected.toNat, 0), (bit e.synced, 16), (e.gen.toNat, 24)]
  | .hits i => (s.entry i).hits
  | .ident k => s.store.ids[k.val]
  | .stslb => BitVec.ofNat 32 s.store.slb
  | .ststat =>
    packWord
      [(bit s.store.idBad, 0), (bit s.store.op.isSome, 1), (s.store.last.toNat, 4), (s.store.applied, 8),
        (s.store.skipped, 16)]
  | .snap k => snapWord s.cmd k

/-- What a read of the word at an offset returns (R5: 0 where there is no register). -/
def readWord (s : State) (o : Nat) : Word :=
  match regAt o with
  | some r => readReg s r
  | none => 0

/-- A host read of a register: the word returned, and the copy a LO read of a latched pair makes (R9). -/
def hostRead (o : Nat) (s : State) : State :=
  let s := { s with hostData := readWord s o }
  match regAt o with
  | some .refLo => { s with host := { s.host with shadowRef := hiWord s.tb.ref } }
  | some .syncCapLo => { s with host := { s.host with shadowSync := hiWord s.tb.syncCap } }
  | some (.tgtimeLo n) => s.modTrig n (fun t => { t with shadow := hiWord t.time })
  | _ => s

/-! ### Writes with a rule of their own -/

/-- Every route is DISABLED (R125). -/
def allDisabled (s : State) : Bool := allRoutes.all (fun r => (s.route r).st == .disabled)

/-- Every route that uses window w is DISABLED (R114). -/
def windowFree (s : State) (w : Fin 4) : Bool :=
  allRoutes.all (fun r => (s.route r).window != w || (s.route r).st == .disabled)

/-- A write to a route's configuration word (R90). -/
def writeRouteReg (r : Fin 16) (reg : RouteReg) (data : Word) (report : Bool) (s : State) : State × Bool :=
  let t := s.route r
  if t.st = .disabled then (s.setRoute r (t.withReg reg (routeRegValue reg (t.reg reg) data)), true)
  else (refuseWrite report (srcIdx r) (regOffset (.route r reg)) data s, false)

/-- A write to a word of a fence window (R114). -/
def writeWindow (w : Fin 4) (reg : WindowReg) (data : Word) (report : Bool) (s : State) : State × Bool :=
  if windowFree s w then
    ({ s with
        eng := { s.eng with windows := s.eng.windows.set w.val ((s.eng.windows[w.val]).withReg reg data) } },
      true)
  else (refuseWrite report noSource (regOffset (.window w reg)) data s, false)

/-- A write to CRBASE (R125). -/
def writeCrbase (h : BaseHalf) (data : Word) (report : Bool) (s : State) : State × Bool :=
  if allDisabled s then
    ({ s with
        eng :=
          match h with
          | .lo => { s.eng with crbaseLo := data }
          | .hi => { s.eng with crbaseHi := data } },
      true)
  else (refuseWrite report noSource (regOffset (.crbase h)) data s, false)

/-- A write to CRCFG (R125). -/
def writeCrcfg (data : Word) (report : Bool) (s : State) : State × Bool :=
  if allDisabled s then
    let n := data.extractLsb' 0 4
    if data.getLsbD 8 then
      if 6 ≤ n.toNat ∧ n.toNat ≤ 14 ∧ s.eng.crbaseLo.toNat % 64 = 0 then
        ({ s with
            eng := { s.eng with crsize := n, crEnable := true, crprod := 0, crcons := 0, phase := true } },
          true)
      else ({ s with eng := { s.eng with crsize := n, crEnable := false } }, true)
    else ({ s with eng := { s.eng with crsize := n, crEnable := false } }, true)
  else (refuseWrite report noSource (regOffset .crcfg) data s, false)

/-- A write to RPOST (R110). -/
def writeRpost (r : Fin 16) (data : Word) (s : State) : State :=
  let t := s.route r
  let p : Count := data.extractLsb' 0 16
  if (p - t.rdone).toNat ≤ t.ringSize ∧ (t.rfetch - t.rdone).toNat ≤ (p - t.rdone).toNat then
    s.modRoute r (fun t => { t with rpost := p })
  else
    post 0x60 (srcIdx r) (packWord [(p.toNat, 0), (0, 16)])
      (packWord [(t.rdone.toNat, 0), (t.rfetch.toNat, 16)]) s

/-- A write to CRCONS (R126). -/
def writeCrcons (data : Word) (s : State) : State :=
  let q : Count := data.extractLsb' 0 16
  if s.eng.crEnable then
    if (q - s.eng.crcons).toNat ≤ (s.eng.crprod - s.eng.crcons).toNat then
      { s with eng := { s.eng with crcons := q } }
    else
      post 0x60 noSource (packWord [(q.toNat, 0), (1, 16)])
        (packWord [(s.eng.crprod.toNat, 0), (s.eng.crcons.toNat, 16)]) s
  else s

/-- A write to INTSTAT (R152, R157): W1C of TICK and SYNC, and with bit 1 the clear of COMPL, its count and
its timer. COMPL stays set where it was set in this tick (R6). -/
def writeIntstat (data : Word) (s : State) : State :=
  let s :=
    { s with
      irq :=
        { s.irq with tick := s.irq.tick && !data.getLsbD 3, sync := s.irq.sync && !data.getLsbD 4 } }
  if data.getLsbD 1 then
    { s with
      irq :=
        { s.irq with
          compl := s.irq.complNow
          modCount := 0
          modTimer :=
            if s.eng.crEnable && s.eng.crprod != s.eng.crcons && s.irq.cmpTimer != 0#16 then some 0 else none } }
  else s

/-- A write to CMPMOD (R156). -/
def writeCmpmod (data : Word) (s : State) : State :=
  let count : BitVec 8 := if fieldOf data 0 8 = 0 then s.irq.cmpCount else data.extractLsb' 0 8
  let timer : BitVec 16 := data.extractLsb' 16 16
  let reached := decide (count.toNat ≤ s.irq.modCount.toNat)
  { s with
    irq :=
      { s.irq with
        cmpCount := count
        cmpTimer := timer
        compl := s.irq.compl || reached
        complNow := s.irq.complNow || reached
        modTimer := if timer = 0#16 then none else s.irq.modTimer } }

/-- A write to BSHED (R86): the new level, and the SHED clearing test. -/
def writeBshed (data : Word) (report : Bool) (s : State) : State :=
  shedTest report { s with buf := { s.buf with bshed := data.extractLsb' 0 14 } }

/-- A write to BSTAT (R86). -/
def writeBstat (s : State) : State := { s with buf := { s.buf with lowFree := s.buf.free.length } }

/-- A write to EVPOP (R150). -/
def popEvent (s : State) : State := { s with ev := { s.ev with queue := s.ev.queue.drop 1 } }

/-- The command a CMDISSUE write captures (R158). -/
def captureCmd (data : Word) (s : State) : Cmd :=
  { op := data.extractLsb' 0 8, target := data.extractLsb' 8 8, token := data.extractLsb' 16 8,
    arg0 := s.cmd.arg0, arg1 := s.cmd.arg1 }

/-- A captured command is offered to the FIFO (R159). -/
def offerCmd (c : Cmd) (s : State) : State :=
  if s.cmd.fifo.length < Config.commandDepth then
    { s with cmd := { s.cmd with fifo := s.cmd.fifo ++ [c] } }
  else
    post 0x92 noSource (packWord [(c.token.toNat, 0), (c.op.toNat, 8), (c.target.toNat, 16)]) c.arg0 s

/-! ### The write of one register -/

/-- What a write of `data` to a register does. `report` is true for a host write and false for a preset write,
whose refusals post no event and which begins no reset (R171). The second component is whether the write was
accepted. RO registers ignore the write (R6). -/
def writeReg (report : Bool) (data : Word) (s : State) : Reg → State × Bool
  | .devctl => (writeDevctl data report s, true)
  | .epochLo => ({ s with tb := { s.tb with epochLo := data } }, true)
  | .epochHi => ({ s with tb := { s.tb with epochHi := data } }, true)
  | .tbctl =>
    ({ s with
        tb :=
          { s.tb with
            armed := data.getLsbD 0, syncFalling := data.getLsbD 1, syncEvt := data.getLsbD 2 } },
      true)
  | .intstat => (writeIntstat data s, true)
  | .inten => ({ s with irq := { s.irq with inten := data.extractLsb' 0 5 } }, true)
  | .cmpmod => (writeCmpmod data s, true)
  | .cmdarg0 => ({ s with cmd := { s.cmd with arg0 := data } }, true)
  | .cmdarg1 => ({ s with cmd := { s.cmd with arg1 := data } }, true)
  | .cmdissue => (offerCmd (captureCmd data s) s, true)
  | .snappage => ({ s with cmd := { s.cmd with snapPage := data.getLsbD 0 } }, true)
  | .evpop => (popEvent s, true)
  | .lane n r => writeLaneReg n r data report s
  | .linjc n => (writeLinjc n data s, true)
  | .linj n => (writeLinj n data s, true)
  | .trig n r => (writeTrig n r data s, true)
  | .window w r => writeWindow w r data report s
  | .bshed => (writeBshed data report s, true)
  | .breserve => ({ s with buf := { s.buf with breserve := data.extractLsb' 0 14 } }, true)
  | .bstat => (writeBstat s, true)
  | .crbase h => writeCrbase h data report s
  | .crcfg => writeCrcfg data report s
  | .crcons => (writeCrcons data s, true)
  | .route r w => writeRouteReg r w data report s
  | .rpost r => (writeRpost r data s, true)
  | .rcsel r => (s.modRoute r (fun t => { t with rcsel := data.extractLsb' 0 4 }), true)
  | .devid | .devstat | .accerr | .refLo | .refHi | .syncCapLo | .syncCapHi | .tbstat | .intident | .cmpstat
  | .cmdstat | .snapinfo | .snaptimeLo | .snaptimeHi | .evw _ | .evstat | .lstat _ | .lrate _ | .laneCtr _ _
  | .tgtimeLo _ | .tgtimeHi _ | .bfree | .crprod | .crback | .rdone _ | .rfetch _ | .rstat0 _ | .rstat1 _
  | .rcval _ | .rserial _ | .rbcnt _ | .matchA _ | .matchB _ | .hits _ | .ident _ | .stslb | .ststat
  | .snap _ => (s, true)

/-- A host write of a register: ignored while LOADING or RESET_BUSY is 1 (R8). -/
def hostWriteReg (r : Reg) (data : Word) (s : State) : State :=
  if writable s then (writeReg true data s r).1 else s

/-- A host write of the word at an offset: ignored where there is no register (R5). -/
def hostWrite (o : Nat) (data : Word) (s : State) : State :=
  match regAt o with
  | some r => hostWriteReg r data s
  | none => s

/-! ### Refused accesses -/

/-- ACCERR's description of a refused access (R4). -/
def accessWord (offset : BitVec 12) (write : Bool) (bytes : BitVec 4) : Word :=
  packWord [(offset.toNat, 0), (bit write, 12), (bytes.toNat, 16), (1, 31)]

/-- A refused access (R4): it changes no register; a refused read returns ones; ACCERR is loaded and event 0x90
posted, except while LOADING or RESET_BUSY is 1. -/
def refuseAccess (offset : BitVec 12) (write : Bool) (bytes : BitVec 4) (data : Word) (s : State) : State :=
  let s := if write then s else { s with hostData := 0xFFFFFFFF }
  if writable s then
    post 0x90 noSource (accessWord offset write bytes) (if write then data else 0)
      { s with host := { s.host with accerr := accessWord offset write bytes } }
  else s

/-- A host access of any shape (R4): refused, or carried out. -/
def access (offset : BitVec 12) (write : Bool) (bytes : BitVec 4) (multi : Bool) (data : Word) (s : State) :
    State :=
  if !(offset.toNat % 4 == 0) || !(bytes == 0xF#4) || multi then refuseAccess offset write bytes data s
  else if write then hostWrite offset.toNat data s
  else hostRead offset.toNat s

/-- The byte enables, in the first word touched, of a four-byte access from an offset on (R4; log entry 23). -/
def firstEnables (offset : BitVec 12) : BitVec 4 := 0xF#4 <<< (offset.toNat % 4)

/-- The LO register of a latched pair (R9). -/
def latchedLo : LatchedPair → Reg
  | .ref => .refLo
  | .syncCap => .syncCapLo
  | .tgTime n => .tgtimeLo n

end Sys2Proof.Machine
end

