-- ==== Sys2Proof/Machine/Delivery.lean ====
section
/-! DEFINITION. The delivery engine (R108 to R128), the closings it carries out for Routes (R99, R101, R102)
and the end of a quiesce (R180, R181). Each sub-step of R108 is a row of its own. -/

namespace Sys2Proof.Machine

/-- A delivery engine step that R178 holds off while RESET_BUSY is 1. -/
def engineStep (f : State → State) (s : State) : State := if s.ctl.resetBusy then s else f s

/-! ### What the sub-steps ask about a route -/

/-- The route is RUNNING or STOPPING: it delivers, fetches and opens buffers (R92). -/
def Route.delivers (t : Route) : Bool := t.st == .running || t.st == .stopping

/-- The ring index of a count (R2, R109). -/
def Route.ringIdx (t : Route) (c : Count) : Nat := c.toNat % t.ringSize

/-- The route has an open buffer. -/
def Route.hasOpen (t : Route) : Bool :=
  match t.buf with
  | some b => b.closed.isNone
  | none => false

/-- The route has an entry in the completion backlog (R127). -/
def hasBacklog (s : State) (r : Fin 16) : Bool := s.eng.backlog.any (fun e => e.route == r)

/-- The record in progress is the route's (R117). -/
def inProgressOn (s : State) (r : Fin 16) : Bool :=
  match s.eng.inProg with
  | some p => p.route == r
  | none => false

/-- The route is settled (R180). -/
def settled (s : State) (r : Fin 16) : Bool :=
  match (s.route r).st with
  | .disabled | .armed | .halted => true
  | .running => framesFor s r == 0 && (s.route r).queue.isEmpty && (s.route r).buf.isNone
  | .stopping | .aborting => false

/-- A quiesce is in progress or has completed. -/
def quieting (s : State) : Bool := s.ctl.quiescing || s.ctl.quiesced

/-! ### Descriptor fetch (R112) -/

/-- R112, the exception of R180 for settled RUNNING routes, and R182: no read is issued while QUIESCED. -/
def mayFetch (s : State) (r : Fin 16) : Bool :=
  let t := s.route r
  t.delivers && t.read.isNone && decide (t.cache.length < 2) && t.rpost != t.rfetch && s.host.masterEn
    && !(quieting s && t.st == .running && settled s r) && !s.ctl.quiesced

/-- How many descriptors the read asks for. -/
def Route.fetchCount (t : Route) : Nat :=
  min (Config.cacheDepth - t.cache.length)
    (min (t.rpost - t.rfetch).toNat (t.ringSize - t.ringIdx t.rfetch))

/-- The host address of the slot of a count (R109); it wraps modulo 2^64 (log entry 35). -/
def Route.slotAddr (t : Route) (c : Count) : DWord := t.ringBase + BitVec.ofNat 64 (16 * t.ringIdx c)

/-- A descriptor read is issued. -/
def fetch (r : Fin 16) (s : State) : State :=
  let t := s.route r
  if mayFetch s r then
    issue (.read r (t.slotAddr t.rfetch) t.fetchCount)
      (s.modRoute r (fun t =>
        { t with
          rfetch := t.rfetch + BitVec.ofNat 16 t.fetchCount
          read := some { start := t.rfetch, n := t.fetchCount, age := 0, stale := false } }))
  else s

/-! ### The outcome of a read (R113, R115) -/

/-- R113: the descriptor is MALFORMED. -/
def descMalformed (d : RawDesc) : Bool :=
  d.address.toNat % 8 != 0 || decide (d.length.toNat < 256) || decide (65536 < d.length.toNat)
    || d.length.toNat % 8 != 0 || decide (2 ^ 64 ≤ d.address.toNat + d.length.toNat - 1)

/-- The buffer's end address (R115). -/
def descEnd (d : RawDesc) : DWord := d.address + d.length.setWidth 64 - 1

/-- R115: the descriptor breaks the window. -/
def descFenced (d : RawDesc) (w : Window) : Bool :=
  d.address &&& w.mask != 0 || descEnd d &&& w.mask != 0

/-- The effective address (R115). -/
def descEffective (d : RawDesc) (w : Window) : DWord := (d.address &&& ~~~w.mask) ||| w.set

/-- The check of an arrived descriptor (R113). -/
def descCheck (d : RawDesc) (w : Window) : Option DescFault :=
  if descMalformed d then some .malformed else if descFenced d w then some .fence else none

/-- The cache entry of an arrived descriptor: a good one with its effective address, a faulty one with its data
as read (R111). -/
def descEntry (d : RawDesc) (w : Window) (idx : Nat) : CacheEntry where
  idx := idx
  fault := descCheck d w
  data :=
    some
      { tag := descTag d, intReq := descIntReq d, length := d.length.toNat
        address := if descCheck d w = none then descEffective d w else d.address }

/-- The entries of the descriptors of a DATA outcome, from count c on. -/
def dataEntries (t : Route) (w : Window) (c : Count) : List RawDesc → List CacheEntry
  | [] => []
  | d :: ds => descEntry d w (t.ringIdx c) :: dataEntries t w (c + 1) ds

/-- The n entries of an ERROR or TIMEOUT outcome, from count c on. -/
def faultEntries (t : Route) (f : DescFault) (c : Count) : Nat → List CacheEntry
  | 0 => []
  | n + 1 => { idx := t.ringIdx c, fault := some f, data := none } :: faultEntries t f (c + 1) n

/-- The window of a route (R114). -/
def routeWindow (s : State) (r : Fin 16) : Window := s.eng.windows[(s.route r).window.val]

/-- A read ends: it is outstanding no longer, and its entries join the cache unless it is stale. -/
def endRead (r : Fin 16) (q : ReadReq) (entries : List CacheEntry) (s : State) : State :=
  s.modRoute r (fun t => { t with read := none, cache := if q.stale then t.cache else t.cache ++ entries })

/-- The answer ends a read of n descriptors (R15): all 16n bytes have arrived, or a part with error status. -/
def answerEnds (n : Nat) : ReadAnswer → Bool
  | .error => true
  | .data bs => decide (16 * n ≤ bs.length)

/-- A read of route r issued before the device reset ends by DATA or ERROR within its time; its outcome is
discarded (R16, R178). -/
def endOldRead (r : Fin 16) (answer : ReadAnswer) (s : State) : State :=
  { s with
    ctl :=
      { s.ctl with
        oldReads :=
          s.ctl.oldReads.eraseP
            (fun e => e.route == r && decide (e.age ≤ Config.readLimit) && answerEnds e.n answer) } }

/-- The entries that an answer brings to a read that it ends (R113). -/
def answerEntries (t : Route) (w : Window) (q : ReadReq) : ReadAnswer → List CacheEntry
  | .error => faultEntries t .error q.start q.n
  | .data bs => dataEntries t w q.start (descsOf q.n bs)

/-- The route's outstanding read ends by DATA or ERROR within its time (R15, R113). -/
def readDone (r : Fin 16) (answer : ReadAnswer) (s : State) : State :=
  if s.ctl.resetBusy then endOldRead r answer s
  else
    match (s.route r).read with
    | some q =>
      if q.age ≤ Config.readLimit ∧ answerEnds q.n answer = true then
        endRead r q (answerEntries (s.route r) (routeWindow s r) q answer) s
      else s
    | none => s

/-- A read of route r issued before the device reset ends by TIMEOUT (R178). -/
def timeOldRead (r : Fin 16) (s : State) : State :=
  let due := fun (e : OldRead) => e.route == r && decide (Config.readLimit ≤ e.age)
  if s.ctl.oldReads.any due then
    { s with
      ctl :=
        { s.ctl with
          oldReads := s.ctl.oldReads.eraseP due, readTimeouts := s.ctl.readTimeouts + 1 } }
  else s

/-- The route's outstanding read ends by TIMEOUT (R15, R113). -/
def readTimeout (r : Fin 16) (s : State) : State :=
  if s.ctl.resetBusy then timeOldRead r s
  else
    match (s.route r).read with
    | some q =>
      if Config.readLimit ≤ q.age then endRead r q (faultEntries (s.route r) .timeout q.start q.n) s else s
    | none => s

/-! ### Opening a buffer (R116, R102) -/

/-- R116. -/
def needsBuffer (s : State) (r : Fin 16) : Bool :=
  let t := s.route r
  t.delivers && !t.queue.isEmpty && !inProgressOn s r && t.buf.isNone && !hasBacklog s r

/-- The buffer a good descriptor opens. -/
def openedBuffer (idx : Nat) (d : DescData) : Buffer where
  idx := idx
  tag := d.tag
  intReq := d.intReq
  length := d.length
  address := d.address
  used := 0
  count := 0
  pretrig := false
  fcsBad := false
  seq := false
  mark := false
  linger := none
  closed := none

/-- The route enters HALTED on the faulty descriptor at its cache head (R102). -/
def haltRoute (r : Fin 16) (f : DescFault) (idx : Nat) (s : State) : State :=
  let left := (s.route r).st
  post 0x52 (srcIdx r) (BitVec.ofNat 32 (faultCode (some f))) (packWord [(idx, 0), (routeCode left, 16)])
    (s.modRoute r (fun t =>
      { t with
        st := .halted, hfrom := left, fault := some f, fidx := idx
        read := t.read.map (fun q => { q with stale := true }) }))

/-- A route that needs a new buffer looks at the head of its cache (R116). -/
def openBuffer (r : Fin 16) (s : State) : State :=
  if needsBuffer s r then
    match (s.route r).cache with
    | [] => s
    | e :: rest =>
      match e.fault, e.data with
      | some f, _ => haltRoute r f e.idx s
      | none, some d => s.modRoute r (fun t => { t with cache := rest, buf := some (openedBuffer e.idx d) })
      | none, none => s
  else s

/-! ### Placing records (R117 to R120) -/

/-- R117: the route has work. -/
def hasWork (s : State) (r : Fin 16) : Bool :=
  let t := s.route r
  t.delivers && t.hasOpen && !t.queue.isEmpty && !inProgressOn s r

/-- The first route with work after the last route served, wrapping. -/
def nextServed (s : State) : Option (Fin 16) :=
  (allRoutes.map (fun k => s.eng.lastServed + 1 + k)).find? (hasWork s)

/-- The first reason to close a buffer is the one it keeps (R123). -/
def Buffer.close (reason : Reason) (b : Buffer) : Buffer :=
  match b.closed with
  | some _ => b
  | none => { b with closed := some reason, linger := none }

/-- Route r's open buffer is closed. -/
def closeBuffer (r : Fin 16) (reason : Reason) (s : State) : State :=
  s.modRoute r (fun t => { t with buf := t.buf.map (Buffer.close reason) })

/-- The head record meets an empty buffer shorter than itself (R120). -/
def oversizeRecord (r : Fin 16) (x : Record) (b : Buffer) (s : State) : State :=
  post 0x63 (srcIdx r) (packWord [(x.length, 0), (b.idx, 16)]) x.serial
    (bumpRoute r .oversizeDiscarded (dropHead r true s))

/-- The head record is placed at the used count and becomes the record in progress (R117, R118). -/
def startRecord (r : Fin 16) (b : Buffer) (s : State) : State :=
  let s := s.modRoute r (fun t => { t with buf := t.buf.map (fun b => { b with linger := none }) })
  { s with eng := { s.eng with inProg := some { route := r, off := b.used, done := 0 } } }

/-- What a turn does with the head record x and the open buffer b of the route it goes to (R117). -/
def takeTurn (r : Fin 16) (x : Record) (b : Buffer) (s : State) : State :=
  if b.used = 0 ∧ b.length < x.length then oversizeRecord r x b s
  else if (s.route r).single = false ∧ b.length < b.used + x.length then closeBuffer r .full s
  else startRecord r b s

/-- One arbitration turn (R117). -/
def placeTurn (s : State) : State :=
  if s.host.masterEn = true ∧ s.eng.inProg = none then
    match nextServed s with
    | none => s
    | some r =>
      let s := { s with eng := { s.eng with lastServed := r } }
      match (s.route r).queue, (s.route r).buf with
      | x :: _, some b => takeTurn r x b s
      | _, _ => s
  else s

/-! ### Payload writes (R118, R119, R121) -/

/-- Bytes of a record's payload from offset k on, zero beyond LENGTH (R118, R121). -/
def payloadBytes (m : Memory) (x : Record) : Nat → Nat → List Byte
  | _, 0 => []
  | k, n + 1 => (if k < x.length then m.readChain x.chain k else 0) :: payloadBytes m x (k + 1) n

/-- The buffer once a record's last payload write has been issued (R118, R119, R121 to R124). -/
def Buffer.take (b : Buffer) (x : Record) (single : Bool) (lingerLimit : Nat) : Buffer :=
  let used := roundUp8 (b.used + x.length)
  let closed :=
    match b.closed with
    | some c => some c
    | none =>
      if single then some .single else if b.length < used + Config.minRoom then some .full else none
  { b with
    used := used
    count := b.count + 1
    pretrig := b.pretrig || x.pretrig
    fcsBad := b.fcsBad || x.fcsBad
    seq := b.seq || x.seqFlag
    mark := b.mark || x.mark
    linger := if closed.isNone && lingerLimit != 0 then some 0 else none
    closed := closed }

/-- The last payload write of the record in progress has been issued (R121). -/
def finishRecord (r : Fin 16) (x : Record) (s : State) : State :=
  let s := dropHead r false s
  let s :=
    s.modRoute r (fun t =>
      { t.count .bytes x.length with
        buf := t.buf.map (fun b => b.take x t.single t.lingerLimit) })
  { s with eng := { s.eng with inProg := none } }

/-- Bytes the next payload write carries: to the next multiple of 256, or to the end of the payload. -/
def writeSize (addr : DWord) (left : Nat) : Nat := min (256 - addr.toNat % 256) left

/-- The next payload write of the record in progress is issued (R121). Its address wraps modulo 2^64
(log entry 35). -/
def payloadOne (p : InProgress) (s : State) : State :=
  match (s.route p.route).queue, (s.route p.route).buf with
  | x :: _, some b =>
    let total := roundUp8 x.length
    let addr := b.address + BitVec.ofNat 64 (p.off + p.done)
    let n := writeSize addr (total - p.done)
    let s := issue (.payload addr (payloadBytes s.buf.mem x p.done n)) s
    if p.done + n < total then { s with eng := { s.eng with inProg := some { p with done := p.done + n } } }
    else finishRecord p.route x s
  | _, _ => s

/-- Up to k payload writes, while a record is in progress. -/
def payloadLoop : Nat → State → State
  | 0, s => s
  | k + 1, s =>
    match s.eng.inProg with
    | none => s
    | some p => payloadLoop k (payloadOne p s)

/-- The engine continues the record in progress (R117, R121); while MASTER_EN is 0 it issues nothing (R14). -/
def continueRecord (count : Nat) (s : State) : State := if s.host.masterEn then payloadLoop count s else s

/-! ### Closing a buffer (R122, R99, R180) -/

/-- The linger timer of the route's open buffer has counted RLINGER kiloticks (R122). It runs only while no
record is in progress into the buffer and the buffer holds one. -/
def lingerDue (s : State) (r : Fin 16) : Bool :=
  match (s.route r).buf with
  | some b =>
    match b.linger with
    | some t =>
      b.closed.isNone && b.count != 0 && !inProgressOn s r && (s.route r).lingerLimit != 0
        && decide ((s.route r).lingerLimit * Config.kilotick ≤ t)
    | none => false
  | none => false

/-- The route has nothing left to place in its open buffer: conditions 1 and 2 of R99 and of R180. -/
def drainedOpen (s : State) (r : Fin 16) : Bool :=
  (s.route r).hasOpen && framesFor s r == 0 && (s.route r).queue.isEmpty && !inProgressOn s r

/-- R99. -/
def stopCloseDue (s : State) (r : Fin 16) : Bool := (s.route r).st == .stopping && drainedOpen s r

/-- R180. -/
def quiesceCloseDue (s : State) (r : Fin 16) : Bool :=
  quieting s && (s.route r).st == .running && drainedOpen s r

/-- Sub-step 3 tries LINGER first (R123): a buffer whose linger is due is closed by it, else by `reason` if `due`
says so. -/
def tryClose (due : Bool) (reason : Reason) (r : Fin 16) (s : State) : State :=
  if lingerDue s r then closeBuffer r .linger s else if due then closeBuffer r reason s else s

/-! ### Completion entries (R123, R124, R126, R127) -/

/-- The moderation of COMPL takes one report of a posted entry (R156). -/
def Interrupts.report (i : Interrupts) (intReq : Bool) : Interrupts :=
  let c := if i.modCount = 255#8 then 255#8 else i.modCount + 1
  let reached := intReq || decide (i.cmpCount.toNat ≤ c.toNat)
  { i with
    modCount := c
    modTimer := if i.modTimer.isNone && i.cmpTimer != 0#16 && c == 1#8 then some 0 else i.modTimer
    compl := i.compl || reached
    complNow := i.complNow || reached }

/-- The slots of the completion ring (R125). -/
def Engine.crSlots (e : Engine) : Nat := 2 ^ e.crsize.toNat

/-- The host address of the producer slot (R126); it wraps modulo 2^64 (log entry 35). -/
def Engine.crAddr (e : Engine) : DWord :=
  pairWords e.crbaseLo e.crbaseHi + BitVec.ofNat 64 (16 * (e.crprod.toNat % e.crSlots))

/-- The producer count and the phase advance over one entry (R126). -/
def Engine.advance (e : Engine) : Engine :=
  { e with
    crprod := e.crprod + 1
    phase := if (e.crprod + 1).toNat % e.crSlots = 0 then !e.phase else e.phase }

/-- An entry is posted to the ring (R126) and reported (R156). -/
def postEntry (e : Completion) (s : State) : State :=
  let s := issue (.completion s.eng.crAddr (e.bytes s.eng.phase s.tb.ref)) s
  { s with eng := s.eng.advance, irq := s.irq.report e.intReq }

/-- An entry joins the tail of the backlog (R127). -/
def joinBacklog (e : Completion) (s : State) : State :=
  let s' :=
    { s with
      eng :=
        { s.eng with
          backlog := s.eng.backlog ++ [e]
          backlogMax :=
            if s.eng.backlog.isEmpty then 1 else max s.eng.backlogMax (s.eng.backlog.length + 1) } }
  if s.eng.backlog.isEmpty then
    post 0x61 (srcIdx e.route) (s.eng.crprod.setWidth 32) (s.eng.crcons.setWidth 32) s'
  else s'

/-- The making of an entry (R123): to the backlog, to the ring, or not yet. `made` is what the making does to
the entry's route. -/
def makeEntry (e : Completion) (made : State → State) (s : State) : State :=
  if s.eng.backlog ≠ [] ∨ ringFull s = true then joinBacklog e (made s)
  else if s.host.masterEn then postEntry e (made s)
  else s

/-- The entry of route r's closed buffer (R124). -/
def bufferEntry (r : Fin 16) (b : Buffer) (reason : Reason) : Completion where
  route := r
  used := b.used
  tag := b.tag
  idx := b.idx
  reason := reason
  count := b.count
  pretrig := b.pretrig
  fcsBad := b.fcsBad
  seq := b.seq
  mark := b.mark
  intReq := b.intReq
  tagInvalid := false

/-- RDONE and BUFFERS count an entry (R123). -/
def Route.countEntry (t : Route) : Route := { t.count .buffers 1 with rdone := t.rdone + 1 }

/-- The entry of route r's closed buffer is made, unless a record is in progress into it (R123). -/
def completeBuffer (r : Fin 16) (s : State) : State :=
  match (s.route r).buf with
  | some b =>
    match b.closed with
    | some reason =>
      if inProgressOn s r then s
      else
        makeEntry (bufferEntry r b reason)
          (fun s => s.modRoute r (fun t => { t.countEntry with buf := none })) s
    | none => s
  | none => s

/-- The data the cache holds for the descriptor at RDONE, if any (R111, R101). -/
def Route.dataAtDone (t : Route) : Option DescData :=
  (t.cache.find? (fun e => e.idx == t.ringIdx t.rdone)).bind CacheEntry.data

/-- The CANCEL entry for the descriptor at RDONE (R101, R124). -/
def cancelOf (r : Fin 16) (t : Route) : Completion where
  route := r
  used := 0
  tag := match t.dataAtDone with | some d => d.tag | none => 0
  idx := t.ringIdx t.rdone
  reason := .cancel
  count := 0
  pretrig := false
  fcsBad := false
  seq := false
  mark := false
  intReq := match t.dataAtDone with | some d => d.intReq | none => false
  tagInvalid := t.dataAtDone.isNone

/-- What a CANCEL entry does to its route (R101, step 5): RDONE advances, its cache entry leaves, and RFETCH is
never behind RDONE. -/
def Route.cancelDone (t : Route) : Route :=
  { t.countEntry with
    cache := t.cache.eraseP (fun e => e.idx == t.ringIdx t.rdone)
    rfetch := if t.rfetch = t.rdone then t.rfetch + 1 else t.rfetch }

/-- R101, step 5: a CANCEL entry may be made now. -/
def cancelDue (s : State) (r : Fin 16) : Bool :=
  let t := s.route r
  t.st == .aborting && t.buf.isNone && !hasBacklog s r && t.read.isNone && t.rpost != t.rdone

/-- At most one CANCEL entry (R123). -/
def cancelOne (r : Fin 16) (s : State) : State :=
  if cancelDue s r then
    makeEntry (cancelOf r (s.route r)) (fun s => s.modRoute r Route.cancelDone) s
  else s

/-- Entries leave the backlog for the ring until one of the three conditions fails (R127). -/
def drainLoop : Nat → State → State
  | 0, s => s
  | k + 1, s =>
    match s.eng.backlog with
    | [] => s
    | e :: rest =>
      if ringFull s = false ∧ s.host.masterEn = true then
        let s := postEntry e { s with eng := { s.eng with backlog := rest } }
        if rest = [] then
          post 0x62 noSource (s.eng.crprod.setWidth 32) (BitVec.ofNat 32 s.eng.backlogMax)
            { s with eng := { s.eng with backlogMax := 0 } }
        else drainLoop k s
      else s

/-! ### Return to DISABLED (R99, R101) -/

/-- Conditions 1 to 5 of R99. -/
def drained (s : State) (r : Fin 16) : Bool :=
  let t := s.route r
  t.st == .stopping && framesFor s r == 0 && t.queue.isEmpty && !inProgressOn s r && t.buf.isNone
    && !hasBacklog s r && t.read.isNone

/-- R101, step 6, after steps 3 to 5. -/
def abortDone (s : State) (r : Fin 16) : Bool :=
  let t := s.route r
  t.st == .aborting && t.buf.isNone && t.rdone == t.rpost && !hasBacklog s r && t.read.isNone

/-- The route closes (R99, R101): RFETCH returns to RDONE, the cache is emptied, and 0x51 names the way. -/
def closeRoute (r : Fin 16) (how : Word) (s : State) : State :=
  post 0x51 (srcIdx r) how ((s.route r).rdone.setWidth 32)
    (s.modRoute r (fun t => { t with rfetch := t.rdone, cache := [], st := .disabled }))

/-! ### The end of a quiesce (R181) -/

/-- The routes that satisfy p, as a mask. -/
def routeMask (p : Fin 16 → Bool) : Word := packWord (allRoutes.map (fun r => (bit (p r), r.val)))

/-- R181's four conditions. -/
def atRest (s : State) : Bool :=
  s.eng.backlog.isEmpty
    && allRoutes.all (fun r => framesFor s r == 0 && settled s r && (s.route r).read.isNone)

/-- QUIESCING becomes QUIESCED (R181). -/
def enterQuiesced (s : State) : State :=
  post 0xA0 noSource (routeMask (fun r => (s.route r).st == .halted))
    (routeMask (fun r => (s.route r).st == .armed && !(s.route r).queue.isEmpty))
    { s with ctl := { s.ctl with quiescing := false, quiesced := true } }

end Sys2Proof.Machine
end

