-- ==== Sys2Proof/Machine/CommandPort.lean ====
section
/-! DEFINITION. The command port (R158 to R166): the generic checks, the result of a command, the command
step, and the port's own NOP, COUNTER_SNAPSHOT and unknown opcodes. -/

namespace Sys2Proof.Machine

/-- Result codes, in the order of their causes 0x10 to 0x17 (R146, R161). -/
inductive Result where
  | ok | noChange | badState | badTarget | badArg | storeFail | guarded | unknownOp
deriving DecidableEq, Repr

/-- The cause of a result event (R161). -/
def resultCause : Result → Byte
  | .ok => 0x10
  | .noChange => 0x11
  | .badState => 0x12
  | .badTarget => 0x13
  | .badArg => 0x14
  | .storeFail => 0x15
  | .guarded => 0x16
  | .unknownOp => 0x17

/-- Detail A of a result event (R161). -/
def Cmd.detail (c : Cmd) : Word := packWord [(c.token.toNat, 0), (c.op.toNat, 8), (c.target.toNat, 16)]

/-- The result event of the head command is generated and the command leaves the FIFO (R159 to R161). -/
def endCmd (c : Cmd) (res : Result) (b : Word) (s : State) : State :=
  let s := post (resultCause res) c.target c.detail b s
  { s with cmd := { s.cmd with fifo := s.cmd.fifo.drop 1, busy := false } }

/-- The opcodes of TABLE 10-1. -/
def knownOp (op : Byte) : Bool :=
  let o := op.toNat
  o == 0x00 || (0x10 ≤ o && o ≤ 0x15) || o == 0x20 || o == 0x28 || o == 0x30 || o == 0x38
    || (0x40 ≤ o && o ≤ 0x43) || o == 0x50 || o == 0x51

/-- The targets TABLE 10-1 gives for an opcode. -/
def targetOk (op target : Byte) : Bool :=
  let o := op.toNat
  let t := target.toNat
  if o = 0x00 then true
  else if 0x10 ≤ o ∧ o ≤ 0x15 then decide (t < 16)
  else if o = 0x20 then decide (t < 32)
  else if o = 0x28 then decide (t < 4)
  else if o = 0x30 then decide (t < 4) || (decide (16 ≤ t) && decide (t < 32)) || t == 0xFF
  else t == 0

/-- The head command, when the command step may start it (R160): it is not holding the port, and no device
reset is busy (R178). -/
def headToStart (s : State) : Option Cmd :=
  if s.cmd.busy || s.ctl.resetBusy then none else s.cmd.fifo.head?

/-- The command step of a head command with opcode `op` (R160, R161): a target outside TABLE 10-1 ends it with
BAD_TARGET, else its owner carries it out. Another head command is not this row's. -/
def runCmd (op : Byte) (owner : Cmd → State → State) (s : State) : State :=
  match headToStart s with
  | some c =>
    if c.op = op then (if targetOk c.op c.target then owner c s else endCmd c .badTarget 0 s) else s
  | none => s

/-! ### The port's own commands -/

/-- NOP (R163). -/
def runNop (c : Cmd) (s : State) : State := endCmd c .ok c.arg0 s

/-- The snapshot's copy and clear of one lane (R164). -/
def snapLane (clear : Bool) (n : Fin 4) (s : State) : State :=
  let s := { s with cmd := { s.cmd with snapLanes := s.cmd.snapLanes.set n.val (s.lane n).ctr } }
  if clear then s.modLane n (fun l => { l with ctr := Vector.replicate 8 0 }) else s

/-- The snapshot's copy and clear of one route (R164). -/
def snapRoute (clear : Bool) (r : Fin 16) (s : State) : State :=
  let s := { s with cmd := { s.cmd with snapRoutes := s.cmd.snapRoutes.set r.val (s.route r).ctr } }
  if clear then s.modRoute r (fun t => { t with ctr := Vector.replicate 12 0 }) else s

/-- The counters a target selects are copied and, if asked, cleared (R164). -/
def snapCounters (target : Nat) (clear : Bool) (s : State) : State :=
  if target < 4 then snapLane clear (Fin.ofNat 4 target) s
  else if target < 32 then snapRoute clear (Fin.ofNat 16 (target - 16)) s
  else allRoutes.foldl (fun s r => snapRoute clear r s) (allLanes.foldl (fun s n => snapLane clear n s) s)

/-- COUNTER_SNAPSHOT (R164). -/
def runSnapshot (c : Cmd) (s : State) : State :=
  let clear := c.arg0.getLsbD 0
  let s := snapCounters c.target.toNat clear s
  endCmd c .ok (loWord s.tb.ref)
    { s with
      cmd :=
        { s.cmd with
          snapTime := s.tb.ref, snapInfo := packWord [(c.target.toNat, 0), (bit clear, 8), (1, 31)] } }

/-- An unknown opcode at the head (R161). -/
def runUnknown (s : State) : State :=
  match headToStart s with
  | some c => if knownOp c.op then s else endCmd c .unknownOp 0 s
  | none => s

end Sys2Proof.Machine
end

