-- ==== Sys2Proof/Machine/RouteCmds.lean ====
section
/-! DEFINITION. The six route commands (R93 to R95, R98, R100, R101, R103 to R105). -/

namespace Sys2Proof.Machine

/-- The route a command names. -/
def Cmd.route (c : Cmd) : Fin 16 := Fin.ofNat 16 c.target.toNat

/-- A route command (R93): its effect on its route, and its result with the state codes before and after. -/
def runRouteCmd (act : Fin 16 → State → State × Result) (c : Cmd) (s : State) : State :=
  let before := routeCode (s.route c.route).st
  let (s', res) := act c.route s
  endCmd c res (packWord [(before, 0), (routeCode (s'.route c.route).st, 8)]) s'

/-- The validity check (R93): the result it fails with, none if it passes. -/
def validity (s : State) (r : Fin 16) : Option Result :=
  if s.eng.crEnable = false then some .badState
  else if (s.route r).rsize < 3 ∨ 12 < (s.route r).rsize ∨ (s.route r).rrbaseLo.toNat % 64 ≠ 0 then
    some .badArg
  else none

/-- ROUTE_ARM (R94). -/
def armRoute (r : Fin 16) (s : State) : State × Result :=
  match (s.route r).st with
  | .disabled =>
    match validity s r with
    | some res => (s, res)
    | none => (s.modRoute r (fun t => { t with st := .armed }), .ok)
  | .armed => (s, .noChange)
  | .running | .stopping | .aborting | .halted => (s, .badState)

/-- ROUTE_START (R95), refused while QUIESCED (R105). -/
def startCmd (r : Fin 16) (s : State) : State × Result :=
  if s.ctl.quiesced then (s, .badState)
  else
    match (s.route r).st with
    | .disabled =>
      match validity s r with
      | some res => (s, res)
      | none => (startRoute r none s, .ok)
    | .armed => (startRoute r none s, .ok)
    | .running => (s, .noChange)
    | .stopping | .aborting | .halted => (s, .badState)

/-- ROUTE_STOP (R98), refused on an ARMED route while QUIESCED (R105). -/
def stopCmd (r : Fin 16) (s : State) : State × Result :=
  match (s.route r).st with
  | .running => (enterStopping r s, .ok)
  | .armed => if s.ctl.quiesced then (s, .badState) else (enterStopping r s, .ok)
  | .stopping => (s, .noChange)
  | .disabled | .aborting | .halted => (s, .badState)

/-! ### Abort (R100, R101) -/

/-- Lane n's frame, if it is in assembly for route r, is withdrawn (R101, step 1). -/
def withdrawFrame (r : Fin 16) (s : State) (n : Fin 4) : State :=
  match (s.lane n).frame with
  | some f =>
    match f.fate with
    | .admitted t =>
      if t.route = r then
        loseMarks n f.marked
          (bumpLane n .abandoned (releaseChain r t.chain (setFate n .withdrawn s)))
      else s
    | _ => s
  | none => s

/-- The queued record behind the first `keep` ones is discarded (R101, step 2). -/
def discardAt (r : Fin 16) (keep : Nat) (s : State) : State :=
  let q := (s.route r).queue
  match q.drop keep with
  | [] => s
  | x :: rest =>
    releaseChain r x.chain
      (loseMarks x.lane x.mark (s.modRoute r (fun t => { t with queue := q.take keep ++ rest })))

/-- Up to k queued records behind the first `keep` ones are discarded, oldest first. -/
def discardQueue (r : Fin 16) (keep : Nat) : Nat → State → State
  | 0, s => s
  | k + 1, s => discardQueue r keep k (discardAt r keep s)

/-- Entry to ABORTING (R101, steps 1 and 2), with the closing of the open buffer that step 3 completes. A
buffer whose linger timer has run out in this tick is closed by LINGER (R123; log entry 25). Within step 1 the
lanes are taken in ascending order, and within step 2 the records oldest first (log entry 33). -/
def enterAborting (r : Fin 16) (s : State) : State :=
  let reason : Reason := if lingerDue s r then .linger else .abort
  let s := s.modRoute r (fun t => { t with st := .aborting })
  let s := allLanes.foldl (withdrawFrame r) s
  let keep := bit (inProgressOn s r)
  closeBuffer r reason (discardQueue r keep ((s.route r).queue.length - keep) s)

/-- ROUTE_ABORT (R100). -/
def abortCmd (r : Fin 16) (s : State) : State × Result :=
  match (s.route r).st with
  | .armed | .running | .stopping | .halted => (enterAborting r s, .ok)
  | .disabled =>
    if (s.route r).rpost = (s.route r).rdone then (s, .noChange)
    else if s.eng.crEnable then (enterAborting r s, .ok)
    else (s, .badState)
  | .aborting => (s, .badState)

/-- ROUTE_RESUME (R103, R105). -/
def resumeCmd (r : Fin 16) (s : State) : State × Result :=
  if (s.route r).st = .halted ∧ s.ctl.quiesced = false then
    let back := (s.route r).hfrom
    let s := s.modRoute r (fun t => { t with cache := [], rfetch := t.rdone, st := back })
    (if back = .running then enterRunning r s else s, .ok)
  else (s, .badState)

/-- ROUTE_FLUSH (R104). -/
def flushCmd (r : Fin 16) (s : State) : State × Result :=
  if (s.route r).delivers then
    if (s.route r).hasOpen then (closeBuffer r .flush s, .ok) else (s, .noChange)
  else (s, .badState)

end Sys2Proof.Machine
end

