-- ==== Sys2Proof/Machine/DeviceCmds.lean ====
section
/-! DEFINITION. The commands owned by the Classifier, the Synchronizer, the Timebase and Quiesce Control:
MATCH_WRITE (R60, R61), LANE_RESYNC (R51), EPOCH_LOAD_NOW (R133), QUIESCE and UNQUIESCE (R179, R183). -/

namespace Sys2Proof.Machine

/-! ### MATCH_WRITE -/

/-- The entry as MATCH_WRITE leaves it (R60, R61). -/
def MatchEntry.rewrite (e : MatchEntry) (arg0 arg1 : Word) : MatchEntry where
  valid := arg0.getLsbD 31
  lanes := arg0.extractLsb' 24 4
  tagVal := arg0.extractLsb' 0 8
  tagMask := arg0.extractLsb' 8 8
  route := Fin.ofNat 16 (fieldOf arg0 16 8)
  discard := arg0.getLsbD 28
  seqChk := arg0.getLsbD 29
  expected := if arg1.getLsbD 16 then arg1.extractLsb' 0 16 else 0
  synced := arg1.getLsbD 16
  gen := e.gen + 1
  hits := 0

/-- MATCH_WRITE (R60, R61). -/
def runMatchWrite (c : Cmd) (s : State) : State :=
  if 15 < fieldOf c.arg0 16 8 then endCmd c .badArg 0 s
  else
    let i : Fin 32 := Fin.ofNat 32 c.target.toNat
    let e := (s.entry i).rewrite c.arg0 c.arg1
    endCmd c .ok (e.gen.setWidth 32) (s.setEntry i e)

/-! ### LANE_RESYNC -/

/-- LANE_RESYNC (R51). -/
def runLaneResync (c : Cmd) (s : State) : State :=
  let n : Fin 4 := Fin.ofNat 4 c.target.toNat
  let before := BitVec.ofNat 32 (laneCode (s.lane n).st)
  match (s.lane n).st with
  | .verify | .locked | .coast =>
    endCmd c .ok before ((abandon n s).modLane n (fun l => l.toSearch true))
  | .search => endCmd c .noChange before s
  | .off | .noclock => endCmd c .badState before s

/-! ### EPOCH_LOAD_NOW -/

/-- EPOCH_LOAD_NOW (R133). -/
def runEpochLoad (c : Cmd) (s : State) : State := endCmd c .ok (loWord s.tb.ref) (loadEpoch s)

/-! ### QUIESCE and UNQUIESCE -/

/-- Detail B of their results (R179): QUIESCING and QUIESCED before the step. -/
def quiesceBits (s : State) : Word := packWord [(bit s.ctl.quiescing, 0), (bit s.ctl.quiesced, 1)]

/-- QUIESCE (R179). -/
def runQuiesce (c : Cmd) (s : State) : State :=
  if quieting s then endCmd c .noChange (quiesceBits s) s
  else endCmd c .ok (quiesceBits s) { s with ctl := { s.ctl with quiescing := true } }

/-- UNQUIESCE (R183). -/
def runUnquiesce (c : Cmd) (s : State) : State :=
  if quieting s then
    endCmd c .ok (quiesceBits s) { s with ctl := { s.ctl with quiescing := false, quiesced := false } }
  else endCmd c .noChange (quiesceBits s) s

end Sys2Proof.Machine
end

