-- ==== Sys2Proof/Machine/StoreCtl.lean ====
section
/-! DEFINITION. The store controller (R167 to R174): the boot load, store operations and their ends, the preset
list, and the four store commands. -/

namespace Sys2Proof.Machine

/-! ### The store's blocks (R167) -/

/-- A checksum is good: the words of the block sum to 0. -/
def checksumGood (ws : List Word) : Bool := ws.foldl (· + ·) 0 == 0

/-- The six identity registers, from words 0 to 5 (R168). -/
def identityOf (ws : List Word) : Vector Word 6 :=
  #v[ws.getD 0 0, ws.getD 1 0, ws.getD 2 0, ws.getD 3 0, ws.getD 4 0, ws.getD 5 0]

/-- The pair count of a preset list's header. -/
def pairCount (ws : List Word) : Nat := fieldOf (ws.getD 0 0) 0 8

/-- Why a preset list is rejected (R170); none if it is accepted. -/
def rejection (ws : List Word) : Option Nat :=
  if fieldOf (ws.getD 0 0) 16 16 ≠ 0x5052 then some 1
  else if 31 < pairCount ws then some 2
  else if checksumGood ws = false then some 3
  else none

/-- The first n pairs of the words behind the header. -/
def takePairs : Nat → List Word → List (Word × Word)
  | n + 1, o :: v :: rest => (o, v) :: takePairs n rest
  | _, _ => []

/-! ### Applying presets (R171) -/

/-- TABLE 11-2: the register may be preset. -/
def presettable : Reg → Bool
  | .devctl | .epochLo | .epochHi | .tbctl | .inten | .cmpmod | .lane _ _ | .trig _ _ | .window _ _ | .bshed
  | .breserve | .crbase _ | .crcfg | .route _ _ => true
  | _ => false

/-- The register an offset word names, if it is in the presettable set (R171). -/
def presetTarget (offset : Word) : Option Reg :=
  if offset.toNat < 4096 ∧ offset.toNat % 4 = 0 then
    match regAt offset.toNat with
    | some r => if presettable r then some r else none
    | none => none
  else none

/-- One pair is applied (true) or skipped (false). -/
def applyPair (p : Word × Word) (s : State) : State × Bool :=
  match presetTarget p.1 with
  | some r => writeReg false p.2 s r
  | none => (s, false)

/-- The pairs in list order, with the counts of those applied and skipped. -/
def applyPairs : List (Word × Word) → State → State × Nat × Nat
  | [], s => (s, 0, 0)
  | p :: ps, s =>
    let (s, ok) := applyPair p s
    let (s, applied, skipped) := applyPairs ps s
    (s, applied + bit ok, skipped + bit (!ok))

/-! ### The outcome of a load (R172, R174) -/

/-- The outcomes. -/
inductive LoadOutcome where
  | applied (applied skipped : Nat)
  | rejected (code : Nat)
  | unresponsive (word phase : Nat)
deriving DecidableEq, Repr

/-- The outcome event (R172). -/
def postOutcome (o : LoadOutcome) (s : State) : State :=
  match o with
  | .applied a k => post 0x80 noSource (BitVec.ofNat 32 a) (packWord [(bit s.store.idBad, 0), (k, 8)]) s
  | .rejected c => post 0x81 noSource (BitVec.ofNat 32 c) (packWord [(bit s.store.idBad, 0)]) s
  | .unresponsive w p => post 0x82 noSource (BitVec.ofNat 32 w) (packWord [(p, 0)]) s

/-- STSTAT.LAST and the counts of an outcome. -/
def LoadOutcome.last : LoadOutcome → BitVec 2
  | .applied _ _ => 1
  | .rejected _ => 2
  | .unresponsive _ _ => 3

/-- The applied and skipped counts: 0 unless the list was applied. -/
def LoadOutcome.counts : LoadOutcome → Nat × Nat
  | .applied a k => (a, k)
  | _ => (0, 0)

/-- The outcome is reported and recorded, and the controller is idle (R172, steps 2 and 3). -/
def recordOutcome (o : LoadOutcome) (s : State) : State :=
  let s := postOutcome o s
  { s with
    store :=
      { s.store with last := o.last, applied := o.counts.1, skipped := o.counts.2, op := none, job := .idle } }

/-- A preset phase that read all its words: the list is judged and an accepted one applied. -/
def judgeList (ws : List Word) (s : State) : State × LoadOutcome :=
  match rejection ws with
  | some c => (s, .rejected c)
  | none =>
    let (s, a, k) := applyPairs (takePairs (pairCount ws) (ws.drop 1)) s
    (s, .applied a k)

/-- The end of a boot load (R172). -/
def endBoot (o : LoadOutcome) (s : State) : State :=
  let s := recordOutcome o s
  { s with ctl := { s.ctl with loading := false } }

/-- A store command that holds the port ends with its result (R160, R173). -/
def endStoreCmd (res : Result) (b : Word) (s : State) : State :=
  match s.cmd.fifo.head? with
  | some c => endCmd c res b s
  | none => { s with cmd := { s.cmd with busy := false } }

/-- The end of a reload (R174): the outcome, then the command's result. -/
def endReload (o : LoadOutcome) (s : State) : State :=
  endStoreCmd (match o with | .unresponsive _ _ => .storeFail | _ => .ok) (BitVec.ofNat 32 o.counts.1)
    (recordOutcome o s)

/-- The end of a STORE_READ or STORE_WRITE (R173). -/
def endStoreWord (res : Result) (b : Word) (s : State) : State :=
  endStoreCmd res b { s with store := { s.store with op := none, job := .idle } }

/-! ### The end of one operation (R169) -/

/-- The next operation of a load begins. -/
def nextRead (word : Nat) (job : StoreJob) (s : State) : State :=
  { s with store := { s.store with op := some { word := word, age := 0 }, job := job } }

/-- The identity phase has read its words (R170). -/
def endIdentity (ws : List Word) (s : State) : State :=
  let store :=
    if checksumGood ws then { s.store with ids := identityOf ws, idBad := false }
    else { s.store with idBad := true }
  nextRead 64 (.bootPreset []) { s with store := store }

/-- The operation on word `word` has ended, a read with `data`. -/
def operationEnds (word : Nat) (data : Word) (s : State) : State :=
  match s.store.job with
  | .bootIdentity ws =>
    if word < 63 then nextRead (word + 1) (.bootIdentity (ws ++ [data])) s else endIdentity (ws ++ [data]) s
  | .bootPreset ws =>
    if word < 127 then nextRead (word + 1) (.bootPreset (ws ++ [data])) s
    else
      let (s, o) := judgeList (ws ++ [data]) s
      endBoot o s
  | .cmdRead => endStoreWord .ok data s
  | .cmdWrite d => endStoreWord .ok d s
  | .reload ws =>
    if word < 127 then nextRead (word + 1) (.reload (ws ++ [data])) s
    else
      let (s, o) := judgeList (ws ++ [data]) s
      endReload o s
  | .idle | .bootWait => s

/-- The operation on word `word` has failed (R169, R170, R173, R174). -/
def operationFails (word : Nat) (s : State) : State :=
  match s.store.job with
  | .bootIdentity _ =>
    endBoot (.unresponsive word 0) { s with store := { s.store with idBad := true } }
  | .bootPreset _ => endBoot (.unresponsive word 1) s
  | .cmdRead | .cmdWrite _ => endStoreWord .storeFail 0 s
  | .reload _ => endReload (.unresponsive word 2) s
  | .idle | .bootWait => s

/-! ### The store commands (R173, R174) -/

/-- The command holds the port while the operation on `word` runs (R160). -/
def holdPort (word : Nat) (job : StoreJob) (s : State) : State :=
  nextRead word job { s with cmd := { s.cmd with busy := true } }

/-- STORE_READ. -/
def runStoreRead (c : Cmd) (s : State) : State :=
  if 255 < c.arg0.toNat then endCmd c .badArg 0 s else holdPort c.arg0.toNat .cmdRead s

/-- STORE_WRITE. -/
def runStoreWrite (c : Cmd) (s : State) : State :=
  if 255 < c.arg0.toNat then endCmd c .badArg 0 s
  else if c.arg0.toNat < s.store.slb then endCmd c .guarded 0 s
  else holdPort c.arg0.toNat (.cmdWrite c.arg1) s

/-- STORE_LOCK. -/
def runStoreLock (c : Cmd) (s : State) : State :=
  let x := c.arg0.toNat
  if 256 < x then endCmd c .badArg (BitVec.ofNat 32 s.store.slb) s
  else if x < s.store.slb then endCmd c .guarded (BitVec.ofNat 32 s.store.slb) s
  else if x = s.store.slb then endCmd c .noChange (BitVec.ofNat 32 s.store.slb) s
  else endCmd c .ok c.arg0 { s with store := { s.store with slb := x } }

/-- STORE_RELOAD. -/
def runStoreReload (c : Cmd) (s : State) : State :=
  if allLanes.all (fun n => (s.lane n).st == .off) && allDisabled s then holdPort 64 (.reload []) s
  else endCmd c .badState 0 s

/-! ### Steps of the controller -/

/-- BOOT_LOAD_START (R170): the identity phase begins, in the first tick after the reset. -/
def bootStart (s : State) : State :=
  if s.ctl.loading = true ∧ s.store.job = .bootWait ∧ s.ctl.resetTick = false then
    nextRead 0 (.bootIdentity []) s
  else s

/-- STORE_OPERATION_DONE (R169): the operation in progress ends within its time. -/
def opDone (data : Word) (s : State) : State :=
  match s.store.op with
  | some o => if o.age < Config.storeLimit then operationEnds o.word data s else s
  | none => s

/-- STORE_OPERATION_FAIL (R169): 10 ms have passed since the start of the operation in progress. -/
def opFail (s : State) : State :=
  match s.store.op with
  | some o => if Config.storeLimit ≤ o.age then operationFails o.word s else s
  | none => s

end Sys2Proof.Machine
end

