-- ==== Sys2Proof/Machine/IntUnit.lean ====
section
/-! DEFINITION. The interrupt unit's own steps (R154 to R156): the end of the moderation timer and the
interrupt message. -/

namespace Sys2Proof.Machine

/-- The moderation timer has counted TIMER kiloticks (R156). -/
def moderationDue (i : Interrupts) : Bool :=
  match i.modTimer with
  | some t => i.cmpTimer != 0#16 && decide (i.cmpTimer.toNat * Config.kilotick ≤ t)
  | none => false

/-- COMPL is set and the timer stops (R156). -/
def Interrupts.expire (i : Interrupts) : Interrupts := { i with compl := true, complNow := true, modTimer := none }

/-- MODERATION_TIMER_EXPIRY (R156). -/
def expireAt (s : State) : State := if moderationDue s.irq then { s with irq := s.irq.expire } else s

/-- The evaluation of this tick gives 1 after a 0, in MESSAGE mode, and no message has been asked for yet
(R155). -/
def messageRises (s : State) : Bool := s.host.intMode && intRequest s && !s.irq.prevReq && !s.irq.asked

/-- The rise of the request asks for one message, which is issued, or held while MASTER_EN is 0 (R155, R17). -/
def askMessage (s : State) : State :=
  let s := { s with irq := { s.irq with asked := true } }
  if s.host.masterEn then issue .message s
  else { s with irq := { s.irq with held := true } }

/-- A held message is issued at the first delivery engine step with MASTER_EN = 1 (R17), ahead of the engine's own
writes of that tick (log entry 36). -/
def releaseHeld (s : State) : State :=
  if s.irq.held && s.host.masterEn then issue .message { s with irq := { s.irq with held := false } } else s

/-- The rise of the request, if this tick's evaluation makes one (R155). -/
def messageAt (s : State) : State := if messageRises s then askMessage s else s

end Sys2Proof.Machine
end

