-- ==== Sys2Proof/Machine/Order.lean ====
section
/-! DEFINITION. The service order of a tick (R1, R108): the slot in which each command's occurrence comes. A slot
is a number, and the slots of a tick come in ascending order. -/

namespace Sys2Proof.Machine

/-- The slot of a place in the service order: a step of R1, a part of the step, a place in the part. -/
def slotKey (step part place : Nat) : Nat := step * 1000 + part * 100 + place

/-- The end of a tick, behind every slot. -/
def tickEnd : Nat := slotKey 10 0 0

/-- The first slot of the delivery engine steps (R1, step 7). -/
def engineStart : Nat := slotKey 7 0 0

/-- The slots of lane n (R1, step 3): its clock edges that give no bit, its bit or its clock watchdog, and what the
bit causes, in the order of R35. The edge that ends NOCLOCK is not sampled (R28), so it has the first of them, and
the lane's next active edge may still come in its tick (log entry 36). -/
def laneSlot (n : Fin 4) (place : Nat) : Nat := slotKey 3 n.val place

/-- The slot of an edge that gives no bit: where the lane stands now, if the tick is at the lane. -/
def edgeSlot (s : State) (n : Fin 4) : Nat :=
  if laneSlot n 0 ≤ s.pos ∧ s.pos ≤ laneSlot n 2 then s.pos else laneSlot n 0

/-- The slot of payload writes (R108, sub-step 7; R117): ahead of the arbitration turn of the tick, or behind it if
it has been taken. -/
def payloadSlot (s : State) : Nat :=
  if slotKey 7 7 1 ≤ s.pos ∧ s.pos ≤ slotKey 7 7 2 then slotKey 7 7 2 else slotKey 7 7 0

/-- The slot of a command in state s (R1, R108). The end of a store operation is a boot load's in step 2, ahead of
the host accesses (R172), and a store command's in step 6 (R160). A held message goes out at the first
delivery engine step, another one in step 8 (R17, R155). Expiry of the SYNC watchdog is tested behind the
edge of the tick (R134) and ahead of the periodic tick (log entry 36). Within sub-step 3 the reasons for one
buffer come in the order of R123; sub-step 4 makes the entries of closed buffers ahead of CANCEL entries. -/
def slot (s : State) : Instr → Nat
  | .powerOnReset | .hostReset | .bootLoadStart => slotKey 1 0 0
  | .storeOperationDone _ | .storeOperationFail => if s.ctl.loading then slotKey 2 0 0 else slotKey 6 0 0
  | .accessError _ _ _ _ _ | .registerWrite _ _ | .latchedLoRead _ | .deviceReset _ | .laneConfigWrite _ _ _
  | .laneEnable _ _ | .laneDisable _ _ | .linjWrite _ _ | .tgcfgWrite _ _ _ | .rpostWrite _ _
  | .routeConfigWrite _ _ _ | .windowWrite _ _ _ | .crbaseWrite _ _ | .completionRingEnable _
  | .completionRingDisable _ | .crconsWrite _ | .bshedWrite _ | .bstatWrite _ | .evpop _ | .complClear _
  | .cmpmodWrite _ | .commandIssue _ => slotKey 2 1 0
  | .laneBitSampled n e => if (s.lane n).activeEdge e.rising then laneSlot n 1 else edgeSlot s n
  | .clockRestored n => laneSlot n 0
  | .injectBitFeed n | .clockLost n => laneSlot n 1
  | .syncFound n | .syncPosition n | .polarityFlipped n | .headerExtent n | .frameEnd n => laneSlot n 2
  | .triggerEdge n _ | .acceptedTransition (.trig n) _ => slotKey 4 0 n.val
  | .syncEdge _ | .acceptedTransition .sync _ => slotKey 5 0 0
  | .syncMissing => slotKey 5 1 0
  | .periodicTick => slotKey 5 2 0
  | .commandUnknownOp | .nop | .routeArm | .routeStart | .routeStop | .routeAbort | .routeResume
  | .routeFlush | .matchWrite | .laneResync | .counterSnapshot | .epochLoadNow | .storeRead | .storeWrite
  | .storeLock | .storeReload | .quiesce | .unquiesce => slotKey 6 0 0
  | .descriptorReadDone r _ | .descriptorReadTimeout r | .lateResponse r _ => slotKey 7 1 r.val
  | .backlogDrain => slotKey 7 2 0
  | .lingerExpiry r => slotKey 7 3 (4 * r.val)
  | .bufferCloseStop r => slotKey 7 3 (4 * r.val + 1)
  | .bufferCloseQuiesce r => slotKey 7 3 (4 * r.val + 2)
  | .completionEntry r => slotKey 7 4 r.val
  | .cancelEntry r => slotKey 7 4 (16 + r.val)
  | .routeDrained r | .routeAbortDone r => slotKey 7 5 r.val
  | .bufferOpen r => slotKey 7 6 r.val
  | .payloadWrite _ => payloadSlot s
  | .recordPlace => slotKey 7 7 1
  | .descriptorFetch r => slotKey 7 8 r.val
  | .quiesced | .resetDone => slotKey 7 9 0
  | .moderationTimerExpiry => slotKey 8 0 0
  | .interruptMessage => if s.irq.held && s.host.masterEn then engineStart else slotKey 8 1 0
  | .pulseEnd n => slotKey 9 0 n.val

/-- More than one occurrence of the slot may come in one tick: host accesses, in the order of the host link (R7), edges
that give no bit, what one bit causes, payload writes, and the ends of reads. Every other slot takes one: one bit
per lane, one command step, one turn, one CANCEL entry per route (R1, R32, R117, R123; log entry 36). -/
def repeats (s : State) : Instr → Bool
  | .accessError _ _ _ _ _ | .registerWrite _ _ | .latchedLoRead _ | .deviceReset _ | .laneConfigWrite _ _ _
  | .laneEnable _ _ | .laneDisable _ _ | .linjWrite _ _ | .tgcfgWrite _ _ _ | .rpostWrite _ _
  | .routeConfigWrite _ _ _ | .windowWrite _ _ _ | .crbaseWrite _ _ | .completionRingEnable _
  | .completionRingDisable _ | .crconsWrite _ | .bshedWrite _ | .bstatWrite _ | .evpop _ | .complClear _
  | .cmpmodWrite _ | .commandIssue _ | .syncFound _ | .syncPosition _ | .polarityFlipped _ | .headerExtent _
  | .frameEnd _ | .payloadWrite _ | .descriptorReadDone _ _ | .descriptorReadTimeout _ | .lateResponse _ _ => true
  | .laneBitSampled n e => !(s.lane n).activeEdge e.rising
  | .powerOnReset | .hostReset | .bootLoadStart | .storeOperationDone _ | .storeOperationFail
  | .injectBitFeed _ | .clockLost _ | .clockRestored _ | .triggerEdge _ _ | .acceptedTransition _ _
  | .syncEdge _ | .syncMissing | .periodicTick | .commandUnknownOp | .nop | .routeArm | .routeStart | .routeStop
  | .routeAbort | .routeResume | .routeFlush | .matchWrite | .laneResync | .counterSnapshot | .epochLoadNow
  | .storeRead | .storeWrite | .storeLock | .storeReload | .quiesce | .unquiesce | .backlogDrain
  | .lingerExpiry _ | .bufferCloseStop _ | .bufferCloseQuiesce _ | .completionEntry _ | .cancelEntry _
  | .routeDrained _ | .routeAbortDone _ | .bufferOpen _ | .recordPlace | .descriptorFetch _ | .quiesced
  | .resetDone | .moderationTimerExpiry | .interruptMessage | .pulseEnd _ => false

/-- Command c can still come in this tick: its slot lies ahead, or it is the present one and takes another. -/
def inOrder (c : Instr) (s : State) : Bool :=
  decide (s.pos < slot s c) || (s.pos == slot s c && repeats s c)

end Sys2Proof.Machine
end

