-- ==== Sys2Proof/Machine/Tick.lean ====
section
/-! DEFINITION. The course of a tick. The table of steps has no row for the clock, so the end of a tick is what `step`
does when no command waits, and what a command brings about that can no longer come in this tick (log entry 3):
the interrupt request is evaluated (R154), pulses, pins and filters take the end of the tick (R131, R141,
R142), and every counter of ticks advances. -/

namespace Sys2Proof.Machine

/-- The slots ahead of `k` are over: what each lane's bit caused is completed in its lane's place (R1, R35), and a held
message is issued as the delivery engine steps begin (R17). -/
def passTo (k : Nat) (s : State) : State :=
  let s :=
    if s.ctl.resetBusy then s
    else (allLanes.filter (fun n => decide (laneSlot n 2 < k))).foldl (fun s n => settleLane n s) s
  if engineStart ≤ k then releaseHeld s else s

/-- The evaluation of step 8 (R154, R155): a rise that has not been turned into a message yet is, the request
is remembered, and INTL follows it in LINE mode. -/
def evaluate (s : State) : State :=
  let req := intRequest s
  let s := messageAt s
  { s with irq := { s.irq with prevReq := req, asked := false, intl := req && !s.host.intMode } }

/-- The watchdog of a receiving line-fed lane counts a tick (R27). -/
def Lane.countTick (l : Lane) : Lane := if l.receiving && !l.inject then { l with wdog := l.wdog + 1 } else l

/-- A running linger timer and an outstanding read count a tick (R15, R122). -/
def Route.countTick (t : Route) : Route :=
  { t with
    read := t.read.map (fun q => { q with age := q.age + 1 })
    buf := t.buf.map (fun b => { b with linger := b.linger.map (· + 1) }) }

/-- Every count of ticks advances by one (R15, R27, R122, R129, R134, R156, R169), the filters move on to the next
sample (R131), and the next tick is at its beginning. -/
def advanceTimers (s : State) : State :=
  { s with
    lanes := if s.ctl.resetBusy then s.lanes else mapVec Lane.countTick s.lanes
    routes := mapVec Route.countTick s.routes
    tb := { s.tb with ref := s.tb.ref + 1, wdog := s.tb.wdog + 1, filter := s.tb.filter.endTick }
    trigs := mapVec Trig.endTick s.trigs
    irq := { s.irq with complNow := false, modTimer := s.irq.modTimer.map (· + 1) }
    store := { s.store with op := s.store.op.map (fun o => { o with age := o.age + 1 }) }
    ctl :=
      { s.ctl with
        resetTick := false, oldReads := s.ctl.oldReads.map (fun e => { e with age := e.age + 1 }) }
    pos := 0 }

/-- The rest of a tick in which no further command comes, up to the beginning of the next one. -/
def tick (s : State) : State := advanceTimers (evaluate (passTo tickEnd s))

/-! ### A command takes its turn (R1) -/

/-- The state in which command c can still come in its tick: this tick's, or the next one's. -/
def tickFor (c : Instr) (s : State) : State := if inOrder c s then s else tick s

/-- The state in which command c acts: all slots ahead of its own are over, and the tick stands at its slot. -/
def arrive (c : Instr) (s : State) : State :=
  let s := tickFor c s
  { passTo (slot s c) s with pos := slot s c }

/-- Command c takes its turn, and `effect` is what it then does. -/
def inTurn (c : Instr) (effect : State → State) (s : State) : Host.Outcome State Fault Refusal :=
  .next (effect (arrive c s))

end Sys2Proof.Machine
end

