-- ==== Sys2Proof/Machine/EngineRows.lean ====
section
/-! DEFINITION. The meanings of the rows of the delivery engine and of the quiesce: each
takes its turn in the service order and does what its rule says. -/

namespace Sys2Proof.Machine

/-- DESCRIPTOR_FETCH (R112, R180, R182). -/
def execDescriptorFetch (r : Fin 16) (s : State) : Host.Outcome State Fault Refusal :=
  inTurn (.descriptorFetch r) (engineStep (fetch r)) s

/-- DESCRIPTOR_READ_DONE (R15, R113, R178). -/
def execDescriptorReadDone (r : Fin 16) (answer : ReadAnswer) (s : State) : Host.Outcome State Fault Refusal :=
  inTurn (.descriptorReadDone r answer) (readDone r answer) s

/-- DESCRIPTOR_READ_TIMEOUT (R15, R113, R178). -/
def execDescriptorReadTimeout (r : Fin 16) (s : State) : Host.Outcome State Fault Refusal :=
  inTurn (.descriptorReadTimeout r) (readTimeout r) s

/-- LATE_RESPONSE (R16): a response for a read that is no longer outstanding changes nothing. -/
def execLateResponse (r : Fin 16) (answer : ReadAnswer) (s : State) : Host.Outcome State Fault Refusal :=
  inTurn (.lateResponse r answer) id s

/-- BUFFER_OPEN (R116, R102). -/
def execBufferOpen (r : Fin 16) (s : State) : Host.Outcome State Fault Refusal :=
  inTurn (.bufferOpen r) (engineStep (openBuffer r)) s

/-- RECORD_PLACE (R117, R120). -/
def execRecordPlace (s : State) : Host.Outcome State Fault Refusal :=
  inTurn .recordPlace (engineStep placeTurn) s

/-- PAYLOAD_WRITE (R121). -/
def execPayloadWrite (count : Nat) (s : State) : Host.Outcome State Fault Refusal :=
  inTurn (.payloadWrite count) (engineStep (continueRecord count)) s

/-- LINGER_EXPIRY (R122). -/
def execLingerExpiry (r : Fin 16) (s : State) : Host.Outcome State Fault Refusal :=
  inTurn (.lingerExpiry r) (engineStep (tryClose false .linger r)) s

/-- BUFFER_CLOSE_STOP (R99, R123). -/
def execBufferCloseStop (r : Fin 16) (s : State) : Host.Outcome State Fault Refusal :=
  inTurn (.bufferCloseStop r) (engineStep (fun s => tryClose (stopCloseDue s r) .stop r s)) s

/-- BUFFER_CLOSE_QUIESCE (R180, R123). -/
def execBufferCloseQuiesce (r : Fin 16) (s : State) : Host.Outcome State Fault Refusal :=
  inTurn (.bufferCloseQuiesce r) (engineStep (fun s => tryClose (quiesceCloseDue s r) .quiesce r s)) s

/-- COMPLETION_ENTRY (R123). -/
def execCompletionEntry (r : Fin 16) (s : State) : Host.Outcome State Fault Refusal :=
  inTurn (.completionEntry r) (engineStep (completeBuffer r)) s

/-- CANCEL_ENTRY (R101, step 5). -/
def execCancelEntry (r : Fin 16) (s : State) : Host.Outcome State Fault Refusal :=
  inTurn (.cancelEntry r) (engineStep (cancelOne r)) s

/-- BACKLOG_DRAIN (R127). -/
def execBacklogDrain (s : State) : Host.Outcome State Fault Refusal :=
  inTurn .backlogDrain (engineStep (fun s => drainLoop s.eng.backlog.length s)) s

/-- ROUTE_DRAINED (R99). -/
def execRouteDrained (r : Fin 16) (s : State) : Host.Outcome State Fault Refusal :=
  inTurn (.routeDrained r) (engineStep (fun s => if drained s r then closeRoute r 0 s else s)) s

/-- ROUTE_ABORT_DONE (R101, step 6). -/
def execRouteAbortDone (r : Fin 16) (s : State) : Host.Outcome State Fault Refusal :=
  inTurn (.routeAbortDone r) (engineStep (fun s => if abortDone s r then closeRoute r 1 s else s)) s

/-- QUIESCED (R181). -/
def execQuiesced (s : State) : Host.Outcome State Fault Refusal :=
  inTurn .quiesced (engineStep (fun s => if s.ctl.quiescing && atRest s then enterQuiesced s else s)) s

end Sys2Proof.Machine
end

