-- ==== Sys2Proof/Machine/HostRows.lean ====
section
/-! DEFINITION. The meanings of the rows of resets, host accesses and store operations: each
takes its turn in the service order and does what its rule says. -/

namespace Sys2Proof.Machine

/-- POWER_ON_RESET (R175). -/
def execPowerOnReset (s : State) : Host.Outcome State Fault Refusal :=
  inTurn .powerOnReset powerOnReset s

/-- HOST_RESET (R176): one tick of it. -/
def execHostReset (s : State) : Host.Outcome State Fault Refusal :=
  inTurn .hostReset hostReset s

/-- DEVICE_RESET (R11, R177): the DEVCTL write that asks for it. -/
def execDeviceReset (data : Word) (s : State) : Host.Outcome State Fault Refusal :=
  inTurn (.deviceReset data) (hostWriteReg .devctl data) s

/-- RESET_DONE (R178). -/
def execResetDone (s : State) : Host.Outcome State Fault Refusal :=
  inTurn .resetDone resetDoneAt s

/-- BOOT_LOAD_START (R170). -/
def execBootLoadStart (s : State) : Host.Outcome State Fault Refusal :=
  inTurn .bootLoadStart bootStart s

/-- STORE_OPERATION_DONE (R169). -/
def execStoreOperationDone (data : Word) (s : State) : Host.Outcome State Fault Refusal :=
  inTurn (.storeOperationDone data) (opDone data) s

/-- STORE_OPERATION_FAIL (R169). -/
def execStoreOperationFail (s : State) : Host.Outcome State Fault Refusal :=
  inTurn .storeOperationFail opFail s

/-- ACCESS_ERROR (R4): an access that R4 does not refuse is carried out (log entry 23). -/
def execAccessError (offset : BitVec 12) (write : Bool) (bytes : BitVec 4) (multi : Bool) (data : Word) (s : State) :
    Host.Outcome State Fault Refusal :=
  inTurn (.accessError offset write bytes multi data) (access offset write bytes multi data) s

/-- REGISTER_WRITE (R4, R5, R6): a host write of the word at an offset. -/
def execRegisterWrite (offset : BitVec 12) (data : Word) (s : State) : Host.Outcome State Fault Refusal :=
  inTurn (.registerWrite offset data) (access offset true (firstEnables offset) false data) s

/-- LATCHED_LO_READ (R9). -/
def execLatchedLoRead (pair : LatchedPair) (s : State) : Host.Outcome State Fault Refusal :=
  inTurn (.latchedLoRead pair) (hostRead (regOffset (latchedLo pair))) s

/-- LANE_CONFIG_WRITE (R22, R23). -/
def execLaneConfigWrite (n : Fin 4) (reg : LaneReg) (data : Word) (s : State) :
    Host.Outcome State Fault Refusal :=
  inTurn (.laneConfigWrite n reg data) (hostWriteReg (.lane n reg) data) s

/-- LANE_ENABLE (R23, R24, R25): an LCTL write. -/
def execLaneEnable (n : Fin 4) (data : Word) (s : State) : Host.Outcome State Fault Refusal :=
  inTurn (.laneEnable n data) (hostWriteReg (.lane n .lctl) data) s

/-- LANE_DISABLE (R22, R26): an LCTL write. -/
def execLaneDisable (n : Fin 4) (data : Word) (s : State) : Host.Outcome State Fault Refusal :=
  inTurn (.laneDisable n data) (hostWriteReg (.lane n .lctl) data) s

/-- LINJ_WRITE (R31). -/
def execLinjWrite (n : Fin 4) (data : Word) (s : State) : Host.Outcome State Fault Refusal :=
  inTurn (.linjWrite n data) (hostWriteReg (.linj n) data) s

/-- TGCFG_WRITE (R138). -/
def execTgcfgWrite (n : Fin 4) (reg : TrigReg) (data : Word) (s : State) : Host.Outcome State Fault Refusal :=
  inTurn (.tgcfgWrite n reg data) (hostWriteReg (.trig n reg) data) s

/-- RPOST_WRITE (R110). -/
def execRpostWrite (r : Fin 16) (data : Word) (s : State) : Host.Outcome State Fault Refusal :=
  inTurn (.rpostWrite r data) (hostWriteReg (.rpost r) data) s

/-- ROUTE_CONFIG_WRITE (R90). -/
def execRouteConfigWrite (r : Fin 16) (reg : RouteReg) (data : Word) (s : State) :
    Host.Outcome State Fault Refusal :=
  inTurn (.routeConfigWrite r reg data) (hostWriteReg (.route r reg) data) s

/-- WINDOW_WRITE (R114). -/
def execWindowWrite (w : Fin 4) (reg : WindowReg) (data : Word) (s : State) :
    Host.Outcome State Fault Refusal :=
  inTurn (.windowWrite w reg data) (hostWriteReg (.window w reg) data) s

/-- CRBASE_WRITE (R125). -/
def execCrbaseWrite (half : BaseHalf) (data : Word) (s : State) : Host.Outcome State Fault Refusal :=
  inTurn (.crbaseWrite half data) (hostWriteReg (.crbase half) data) s

/-- COMPLETION_RING_ENABLE (R125): a CRCFG write. -/
def execCompletionRingEnable (data : Word) (s : State) : Host.Outcome State Fault Refusal :=
  inTurn (.completionRingEnable data) (hostWriteReg .crcfg data) s

/-- COMPLETION_RING_DISABLE (R125): a CRCFG write. -/
def execCompletionRingDisable (data : Word) (s : State) : Host.Outcome State Fault Refusal :=
  inTurn (.completionRingDisable data) (hostWriteReg .crcfg data) s

/-- CRCONS_WRITE (R126). -/
def execCrconsWrite (data : Word) (s : State) : Host.Outcome State Fault Refusal :=
  inTurn (.crconsWrite data) (hostWriteReg .crcons data) s

/-- BSHED_WRITE (R78, R86). -/
def execBshedWrite (data : Word) (s : State) : Host.Outcome State Fault Refusal :=
  inTurn (.bshedWrite data) (hostWriteReg .bshed data) s

/-- BSTAT_WRITE (R86). -/
def execBstatWrite (data : Word) (s : State) : Host.Outcome State Fault Refusal :=
  inTurn (.bstatWrite data) (hostWriteReg .bstat data) s

/-- EVPOP (R150). -/
def execEvpop (data : Word) (s : State) : Host.Outcome State Fault Refusal :=
  inTurn (.evpop data) (hostWriteReg .evpop data) s

/-- COMPL_CLEAR (R157): an INTSTAT write. -/
def execComplClear (data : Word) (s : State) : Host.Outcome State Fault Refusal :=
  inTurn (.complClear data) (hostWriteReg .intstat data) s

/-- CMPMOD_WRITE (R156). -/
def execCmpmodWrite (data : Word) (s : State) : Host.Outcome State Fault Refusal :=
  inTurn (.cmpmodWrite data) (hostWriteReg .cmpmod data) s

/-- COMMAND_ISSUE (R158, R159): a CMDISSUE write. -/
def execCommandIssue (data : Word) (s : State) : Host.Outcome State Fault Refusal :=
  inTurn (.commandIssue data) (hostWriteReg .cmdissue data) s

end Sys2Proof.Machine
end

