-- ==== Sys2Proof/Machine/LaneRows.lean ====
section
/-! DEFINITION. The meanings of the rows of the lanes: each
takes its turn in the service order and does what its rule says. -/

namespace Sys2Proof.Machine

/-- CLOCK_LOST (R27). -/
def execClockLost (n : Fin 4) (s : State) : Host.Outcome State Fault Refusal :=
  inTurn (.clockLost n) (clockLostAt n) s

/-- CLOCK_RESTORED (R28). -/
def execClockRestored (n : Fin 4) (s : State) : Host.Outcome State Fault Refusal :=
  inTurn (.clockRestored n) (clockRestoredAt n) s

/-- SYNC_FOUND (R37). -/
def execSyncFound (n : Fin 4) (s : State) : Host.Outcome State Fault Refusal :=
  inTurn (.syncFound n) (syncFoundAt n) s

/-- SYNC_POSITION (R38, R40, R41). -/
def execSyncPosition (n : Fin 4) (s : State) : Host.Outcome State Fault Refusal :=
  inTurn (.syncPosition n) (syncPositionAt n) s

/-- POLARITY_FLIPPED (R44). -/
def execPolarityFlipped (n : Fin 4) (s : State) : Host.Outcome State Fault Refusal :=
  inTurn (.polarityFlipped n) (flipRow n) s

/-- HEADER_EXTENT (R46). -/
def execHeaderExtent (n : Fin 4) (s : State) : Host.Outcome State Fault Refusal :=
  inTurn (.headerExtent n) (headerExtentAt n) s

/-- FRAME_END (R47). -/
def execFrameEnd (n : Fin 4) (s : State) : Host.Outcome State Fault Refusal :=
  inTurn (.frameEnd n) (frameEndAt n) s

/-- LANE_BIT_SAMPLED (R29). -/
def execLaneBitSampled (n : Fin 4) (edge : ClockEdge) (s : State) : Host.Outcome State Fault Refusal :=
  inTurn (.laneBitSampled n edge) (clockEdge n edge.rising edge.level) s

/-- INJECT_BIT_FEED (R32). -/
def execInjectBitFeed (n : Fin 4) (s : State) : Host.Outcome State Fault Refusal :=
  inTurn (.injectBitFeed n) (feedAt n) s

end Sys2Proof.Machine
end

