-- ==== Sys2Proof/Machine/PortRows.lean ====
section
/-! DEFINITION. The meanings of the rows of the command port: each
takes its turn in the service order and does what its rule says. -/

namespace Sys2Proof.Machine

/-- COMMAND_UNKNOWN_OP (R161). -/
def execCommandUnknownOp (s : State) : Host.Outcome State Fault Refusal :=
  inTurn .commandUnknownOp runUnknown s

/-- NOP (R163). -/
def execNop (s : State) : Host.Outcome State Fault Refusal :=
  inTurn .nop (runCmd 0x00 runNop) s

/-- ROUTE_ARM (R94). -/
def execRouteArm (s : State) : Host.Outcome State Fault Refusal :=
  inTurn .routeArm (runCmd 0x10 (runRouteCmd armRoute)) s

/-- ROUTE_START (R95). -/
def execRouteStart (s : State) : Host.Outcome State Fault Refusal :=
  inTurn .routeStart (runCmd 0x11 (runRouteCmd startCmd)) s

/-- ROUTE_STOP (R98). -/
def execRouteStop (s : State) : Host.Outcome State Fault Refusal :=
  inTurn .routeStop (runCmd 0x12 (runRouteCmd stopCmd)) s

/-- ROUTE_ABORT (R100, R101). -/
def execRouteAbort (s : State) : Host.Outcome State Fault Refusal :=
  inTurn .routeAbort (runCmd 0x13 (runRouteCmd abortCmd)) s

/-- ROUTE_RESUME (R103). -/
def execRouteResume (s : State) : Host.Outcome State Fault Refusal :=
  inTurn .routeResume (runCmd 0x14 (runRouteCmd resumeCmd)) s

/-- ROUTE_FLUSH (R104). -/
def execRouteFlush (s : State) : Host.Outcome State Fault Refusal :=
  inTurn .routeFlush (runCmd 0x15 (runRouteCmd flushCmd)) s

/-- MATCH_WRITE (R60, R61). -/
def execMatchWrite (s : State) : Host.Outcome State Fault Refusal :=
  inTurn .matchWrite (runCmd 0x20 runMatchWrite) s

/-- LANE_RESYNC (R51). -/
def execLaneResync (s : State) : Host.Outcome State Fault Refusal :=
  inTurn .laneResync (runCmd 0x28 runLaneResync) s

/-- COUNTER_SNAPSHOT (R164). -/
def execCounterSnapshot (s : State) : Host.Outcome State Fault Refusal :=
  inTurn .counterSnapshot (runCmd 0x30 runSnapshot) s

/-- EPOCH_LOAD_NOW (R133). -/
def execEpochLoadNow (s : State) : Host.Outcome State Fault Refusal :=
  inTurn .epochLoadNow (runCmd 0x38 runEpochLoad) s

/-- STORE_READ (R173). -/
def execStoreRead (s : State) : Host.Outcome State Fault Refusal :=
  inTurn .storeRead (runCmd 0x40 runStoreRead) s

/-- STORE_WRITE (R173). -/
def execStoreWrite (s : State) : Host.Outcome State Fault Refusal :=
  inTurn .storeWrite (runCmd 0x41 runStoreWrite) s

/-- STORE_LOCK (R173). -/
def execStoreLock (s : State) : Host.Outcome State Fault Refusal :=
  inTurn .storeLock (runCmd 0x42 runStoreLock) s

/-- STORE_RELOAD (R174). -/
def execStoreReload (s : State) : Host.Outcome State Fault Refusal :=
  inTurn .storeReload (runCmd 0x43 runStoreReload) s

/-- QUIESCE (R179). -/
def execQuiesce (s : State) : Host.Outcome State Fault Refusal :=
  inTurn .quiesce (runCmd 0x50 runQuiesce) s

/-- UNQUIESCE (R183). -/
def execUnquiesce (s : State) : Host.Outcome State Fault Refusal :=
  inTurn .unquiesce (runCmd 0x51 runUnquiesce) s

end Sys2Proof.Machine
end

