-- ==== Sys2Proof/Machine/TimeRows.lean ====
section
/-! DEFINITION. The meanings of the rows of the timebase, the trigger port and the interrupt unit: each
takes its turn in the service order and does what its rule says. -/

namespace Sys2Proof.Machine

/-- TRIGGER_EDGE (R139): a transition of the line in the given direction. -/
def execTriggerEdge (n : Fin 4) (rising : Bool) (s : State) : Host.Outcome State Fault Refusal :=
  inTurn (.triggerEdge n rising) (sampleTrigger n rising) s

/-- SYNC_EDGE (R132): a transition of SYNC in the given direction. -/
def execSyncEdge (rising : Bool) (s : State) : Host.Outcome State Fault Refusal :=
  inTurn (.syncEdge rising) (sampleSync rising) s

/-- SYNC_MISSING (R134). -/
def execSyncMissing (s : State) : Host.Outcome State Fault Refusal :=
  inTurn .syncMissing syncMissingAt s

/-- PERIODIC_TICK (R136). -/
def execPeriodicTick (s : State) : Host.Outcome State Fault Refusal :=
  inTurn .periodicTick periodicTickAt s

/-- PULSE_END (R142). -/
def execPulseEnd (n : Fin 4) (s : State) : Host.Outcome State Fault Refusal :=
  inTurn (.pulseEnd n) (pulseEndAt n) s

/-- ACCEPTED_TRANSITION (R131). -/
def execAcceptedTransition (input : Input) (level : Bool) (s : State) : Host.Outcome State Fault Refusal :=
  inTurn (.acceptedTransition input level) (sampleInput input level) s

/-- MODERATION_TIMER_EXPIRY (R156). -/
def execModerationTimerExpiry (s : State) : Host.Outcome State Fault Refusal :=
  inTurn .moderationTimerExpiry expireAt s

/-- INTERRUPT_MESSAGE (R155, R17): a held message goes out as the delivery engine steps begin; another one is that of
the rise of the request, in step 8. -/
def execInterruptMessage (s : State) : Host.Outcome State Fault Refusal :=
  inTurn .interruptMessage (fun t => if t.pos = engineStart then t else messageAt t) s

end Sys2Proof.Machine
end

