-- ==== Sys2Proof/Machine/Dispatch.lean ====
section
/-! DEFINITION. The meaning of each command: one arm per row of spec/opcode_table.json. -/

namespace Sys2Proof.Machine

def exec (i : Instr) (s : State) : Host.Outcome State Fault Refusal :=
  match i with
  | .powerOnReset => Sys2Proof.Machine.execPowerOnReset s
  | .hostReset => Sys2Proof.Machine.execHostReset s
  | .deviceReset data => Sys2Proof.Machine.execDeviceReset data s
  | .resetDone => Sys2Proof.Machine.execResetDone s
  | .bootLoadStart => Sys2Proof.Machine.execBootLoadStart s
  | .storeOperationDone data => Sys2Proof.Machine.execStoreOperationDone data s
  | .storeOperationFail => Sys2Proof.Machine.execStoreOperationFail s
  | .accessError offset write bytes multi data => Sys2Proof.Machine.execAccessError offset write bytes multi data s
  | .registerWrite offset data => Sys2Proof.Machine.execRegisterWrite offset data s
  | .latchedLoRead pair => Sys2Proof.Machine.execLatchedLoRead pair s
  | .laneConfigWrite lane reg data => Sys2Proof.Machine.execLaneConfigWrite lane reg data s
  | .laneEnable lane data => Sys2Proof.Machine.execLaneEnable lane data s
  | .laneDisable lane data => Sys2Proof.Machine.execLaneDisable lane data s
  | .linjWrite lane data => Sys2Proof.Machine.execLinjWrite lane data s
  | .clockLost lane => Sys2Proof.Machine.execClockLost lane s
  | .clockRestored lane => Sys2Proof.Machine.execClockRestored lane s
  | .syncFound lane => Sys2Proof.Machine.execSyncFound lane s
  | .syncPosition lane => Sys2Proof.Machine.execSyncPosition lane s
  | .polarityFlipped lane => Sys2Proof.Machine.execPolarityFlipped lane s
  | .headerExtent lane => Sys2Proof.Machine.execHeaderExtent lane s
  | .frameEnd lane => Sys2Proof.Machine.execFrameEnd lane s
  | .triggerEdge line rising => Sys2Proof.Machine.execTriggerEdge line rising s
  | .tgcfgWrite line reg data => Sys2Proof.Machine.execTgcfgWrite line reg data s
  | .syncEdge rising => Sys2Proof.Machine.execSyncEdge rising s
  | .syncMissing => Sys2Proof.Machine.execSyncMissing s
  | .periodicTick => Sys2Proof.Machine.execPeriodicTick s
  | .pulseEnd line => Sys2Proof.Machine.execPulseEnd line s
  | .rpostWrite route data => Sys2Proof.Machine.execRpostWrite route data s
  | .routeConfigWrite route reg data => Sys2Proof.Machine.execRouteConfigWrite route reg data s
  | .windowWrite window reg data => Sys2Proof.Machine.execWindowWrite window reg data s
  | .crbaseWrite half data => Sys2Proof.Machine.execCrbaseWrite half data s
  | .completionRingEnable data => Sys2Proof.Machine.execCompletionRingEnable data s
  | .completionRingDisable data => Sys2Proof.Machine.execCompletionRingDisable data s
  | .crconsWrite data => Sys2Proof.Machine.execCrconsWrite data s
  | .bshedWrite data => Sys2Proof.Machine.execBshedWrite data s
  | .bstatWrite data => Sys2Proof.Machine.execBstatWrite data s
  | .evpop data => Sys2Proof.Machine.execEvpop data s
  | .complClear data => Sys2Proof.Machine.execComplClear data s
  | .cmpmodWrite data => Sys2Proof.Machine.execCmpmodWrite data s
  | .moderationTimerExpiry => Sys2Proof.Machine.execModerationTimerExpiry s
  | .interruptMessage => Sys2Proof.Machine.execInterruptMessage s
  | .commandUnknownOp => Sys2Proof.Machine.execCommandUnknownOp s
  | .nop => Sys2Proof.Machine.execNop s
  | .routeArm => Sys2Proof.Machine.execRouteArm s
  | .routeStart => Sys2Proof.Machine.execRouteStart s
  | .routeStop => Sys2Proof.Machine.execRouteStop s
  | .routeAbort => Sys2Proof.Machine.execRouteAbort s
  | .routeResume => Sys2Proof.Machine.execRouteResume s
  | .routeFlush => Sys2Proof.Machine.execRouteFlush s
  | .matchWrite => Sys2Proof.Machine.execMatchWrite s
  | .laneResync => Sys2Proof.Machine.execLaneResync s
  | .counterSnapshot => Sys2Proof.Machine.execCounterSnapshot s
  | .epochLoadNow => Sys2Proof.Machine.execEpochLoadNow s
  | .storeRead => Sys2Proof.Machine.execStoreRead s
  | .storeWrite => Sys2Proof.Machine.execStoreWrite s
  | .storeLock => Sys2Proof.Machine.execStoreLock s
  | .storeReload => Sys2Proof.Machine.execStoreReload s
  | .quiesce => Sys2Proof.Machine.execQuiesce s
  | .unquiesce => Sys2Proof.Machine.execUnquiesce s
  | .quiesced => Sys2Proof.Machine.execQuiesced s
  | .descriptorFetch route => Sys2Proof.Machine.execDescriptorFetch route s
  | .descriptorReadDone route answer => Sys2Proof.Machine.execDescriptorReadDone route answer s
  | .descriptorReadTimeout route => Sys2Proof.Machine.execDescriptorReadTimeout route s
  | .lateResponse route answer => Sys2Proof.Machine.execLateResponse route answer s
  | .bufferOpen route => Sys2Proof.Machine.execBufferOpen route s
  | .recordPlace => Sys2Proof.Machine.execRecordPlace s
  | .payloadWrite count => Sys2Proof.Machine.execPayloadWrite count s
  | .lingerExpiry route => Sys2Proof.Machine.execLingerExpiry route s
  | .bufferCloseStop route => Sys2Proof.Machine.execBufferCloseStop route s
  | .bufferCloseQuiesce route => Sys2Proof.Machine.execBufferCloseQuiesce route s
  | .completionEntry route => Sys2Proof.Machine.execCompletionEntry route s
  | .cancelEntry route => Sys2Proof.Machine.execCancelEntry route s
  | .backlogDrain => Sys2Proof.Machine.execBacklogDrain s
  | .routeDrained route => Sys2Proof.Machine.execRouteDrained route s
  | .routeAbortDone route => Sys2Proof.Machine.execRouteAbortDone route s
  | .laneBitSampled lane edge => Sys2Proof.Machine.execLaneBitSampled lane edge s
  | .injectBitFeed lane => Sys2Proof.Machine.execInjectBitFeed lane s
  | .acceptedTransition input level => Sys2Proof.Machine.execAcceptedTransition input level s
  | .commandIssue data => Sys2Proof.Machine.execCommandIssue data s

end Sys2Proof.Machine
end

