-- ==== Sys2Proof/Safety.lean ====
section
/-! DEFINITION. What counts as a safe state, in the terms claims use: the parts of the invariant that every step
keeps, and the terms of the statements. -/

namespace Sys2Proof.Machine

/-! ### The invariant -/

/-- R148: the event queue holds at most 64 entries, and when it is full its newest entry is a loss marker. -/
def EventsOk (s : State) : Prop :=
  s.ev.queue.length ≤ Config.eventDepth ∧
    (s.ev.queue.length = Config.eventDepth → ∃ m, s.ev.queue.getLast? = some m ∧ m.isMarker = true)

/-- R159: the command FIFO holds at most eight commands. -/
def FifoOk (s : State) : Prop := s.cmd.fifo.length ≤ Config.commandDepth

/-- R68: buffer memory keeps its canonical form. -/
def MemOk (s : State) : Prop := s.buf.mem.wf = true

/-- R111, R112: a cache never holds more than four entries, those its outstanding read will bring included. -/
def cacheOk (t : Route) : Bool :=
  decide (t.cache.length ≤ Config.cacheDepth)
    && (match t.read with
        | some q => q.stale || decide (t.cache.length + q.n ≤ Config.cacheDepth)
        | none => true)

/-- Every route's cache is within its depth. -/
def CachesOk (s : State) : Prop := ∀ r, cacheOk (s.route r) = true

/-- R127, R116: the backlog holds at most one entry per route, and a route with one has no buffer. -/
def BacklogOk (s : State) : Prop :=
  (s.eng.backlog.map Completion.route).Nodup ∧ ∀ r, hasBacklog s r = true → (s.route r).buf = none

/-- R168: SLB is 64 to 256. -/
def SlbOk (s : State) : Prop := 64 ≤ s.store.slb ∧ s.store.slb ≤ 256

/-- R19 to R21: no field of a lane holds an encoding that stands for no value. -/
def laneLegal (l : Lane) : Bool :=
  fieldOf l.lctl 8 8 != 0 && fieldOf l.lctl 4 2 != 3 && fieldOf l.lfmt 12 3 != 0 && fieldOf l.lfmt 8 3 != 0
    && fieldOf l.lfmt 5 2 != 3 && fieldOf l.lhdr 16 2 != 3 && fieldOf l.lhdr 8 2 != 3
    && decide (1 ≤ l.linjc.toNat) && decide (l.linjc.toNat ≤ 4)

/-- R137: no field of a trigger line holds an encoding that stands for no value. -/
def trigLegal (t : Trig) : Bool := fieldOf t.cfg 1 2 != 3 && fieldOf t.cfg 5 2 != 3

/-- R21, R89, R137, R156: no register field holds an encoding that stands for no value. -/
def ConfigOk (s : State) : Prop :=
  (∀ n, laneLegal (s.lane n) = true) ∧ (∀ n, trigLegal (s.trig n) = true)
    ∧ (∀ r, (s.route r).quota ≤ Config.numBlocks) ∧ s.irq.cmpCount ≠ 0#8

/-- R45 to R47, R50: a frame in assembly belongs to a lane in LOCKED or COAST that is receiving its body, and
it is admitted only at its header extent. -/
def frameOk (l : Lane) : Bool :=
  match l.frame with
  | none => true
  | some f =>
    (l.st == .locked || l.st == .coast)
      && (match l.asm with
          | some a =>
            a.phase == .body
              && (match f.fate with
                  | .undecided => true
                  | _ => a.hdrDone)
          | none => false)

/-- R177, R178: a lane that a device reset holds is OFF or in SEARCH, and frames nothing. -/
def laneHeld (l : Lane) : Bool :=
  (l.st == .off || l.st == .search) && l.frame.isNone && l.asm.isNone && !l.cmpDue

/-- The blocks a lane's frame in assembly holds. -/
def Lane.blocks (l : Lane) : List Nat :=
  match l.frame with
  | some f =>
    match f.fate with
    | .admitted t => t.chain
    | _ => []
  | none => []

/-- All blocks in use: those of frames in assembly, then those of queued records. -/
def usedBlocks (s : State) : List Nat :=
  allLanes.flatMap (fun n => (s.lane n).blocks)
    ++ allRoutes.flatMap (fun r => (s.route r).queue.flatMap Record.chain)

/-- R69, R84, R85: each of the 16384 blocks is in exactly one place, the free list or one chain. -/
def BlocksOk (s : State) : Prop :=
  (∀ n, frameOk (s.lane n) = true)
    ∧ (s.ctl.resetBusy = true → ∀ n, laneHeld (s.lane n) = true)
    ∧ (s.buf.free ++ usedBlocks s).Perm (List.range' 0 Config.numBlocks)

/-! ### Terms of the statements -/

/-- Nothing that the lane's last bit caused is left to be done (R35): no header extent, no frame end, no comparison
and no polarity flip. -/
def laneQuiet (l : Lane) : Bool :=
  !l.headerDue && !l.frameEndDue && !l.positionDue && !(l.st == .search && l.cmpDue) && !l.flipDue

/-- Nothing is left to complete: no lane holds what a bit caused, and no message waits that may go out. -/
def quiet (s : State) : Bool :=
  allLanes.all (fun n => laneQuiet (s.lane n)) && !(s.irq.held && s.host.masterEn)

/-- Command c, acting in state s, answers the next state t: `exec` answers t in every state whose turn for c
(`arrive`, R1) brings s about. Every state s₀ is one in which c acts in `arrive c s₀`. -/
def Acts (c : Instr) (s t : State) : Prop := ∀ s₀, arrive c s₀ = s → exec c s₀ = .next t

/-- Command c is the head of the FIFO with `rest` behind it, and the command step may start it (R160, R178). -/
abbrev Ready (s : State) (c : Cmd) (rest : List Cmd) : Prop :=
  s.cmd.fifo = c :: rest ∧ s.cmd.busy = false ∧ s.ctl.resetBusy = false

/-- The opcode of the row of a port command (TABLE 10-1). -/
def commandOp : Instr → Option Byte
  | .nop => some 0x00
  | .routeArm => some 0x10
  | .routeStart => some 0x11
  | .routeStop => some 0x12
  | .routeAbort => some 0x13
  | .routeResume => some 0x14
  | .routeFlush => some 0x15
  | .matchWrite => some 0x20
  | .laneResync => some 0x28
  | .counterSnapshot => some 0x30
  | .epochLoadNow => some 0x38
  | .storeRead => some 0x40
  | .storeWrite => some 0x41
  | .storeLock => some 0x42
  | .storeReload => some 0x43
  | .quiesce => some 0x50
  | .unquiesce => some 0x51
  | _ => none

/-- The rows that are one host write (R6). -/
def isHostWrite : Instr → Bool
  | .accessError _ write _ _ _ => write
  | .registerWrite _ _ | .deviceReset _ | .laneConfigWrite _ _ _ | .laneEnable _ _ | .laneDisable _ _
  | .linjWrite _ _ | .tgcfgWrite _ _ _ | .rpostWrite _ _ | .routeConfigWrite _ _ _ | .windowWrite _ _ _
  | .crbaseWrite _ _ | .completionRingEnable _ | .completionRingDisable _ | .crconsWrite _ | .bshedWrite _
  | .bstatWrite _ | .evpop _ | .complClear _ | .cmpmodWrite _ | .commandIssue _ => true
  | _ => false

/-- The rows that may issue a bus-master transaction (R13). -/
def mayIssue : Instr → Bool
  | .descriptorFetch _ | .payloadWrite _ | .completionEntry _ | .cancelEntry _ | .backlogDrain
  | .interruptMessage => true
  | _ => false

/-- The rows that may change the reference counter other than by a tick (R129). -/
def mayLoadCounter : Instr → Bool
  | .powerOnReset | .syncEdge _ | .acceptedTransition .sync _ | .epochLoadNow => true
  | _ => false

/-- The registers whose writes do nothing (R6): RO, computed or latched. -/
def isReadOnly : Reg → Bool
  | .devid | .devstat | .accerr | .refLo | .refHi | .syncCapLo | .syncCapHi | .tbstat | .intident | .cmpstat
  | .cmdstat | .snapinfo | .snaptimeLo | .snaptimeHi | .evw _ | .evstat | .lstat _ | .lrate _ | .laneCtr _ _
  | .tgtimeLo _ | .tgtimeHi _ | .bfree | .crprod | .crback | .rdone _ | .rfetch _ | .rstat0 _ | .rstat1 _
  | .rcval _ | .rserial _ | .rbcnt _ | .matchA _ | .matchB _ | .hits _ | .ident _ | .stslb | .ststat
  | .snap _ => true
  | _ => false

/-- The defined bits of the RW registers that take every value and read it back (R5, R6). -/
def plainMask : Reg → Option Word
  | .epochLo | .epochHi | .cmdarg0 | .cmdarg1 => some 0xFFFFFFFF
  | .tbctl => some 0x7
  | .inten => some 0x1F
  | .snappage => some 0x1
  | .bshed | .breserve => some 0x3FFF
  | .rcsel _ => some 0xF
  | _ => none

end Sys2Proof.Machine
end

