-- ==== Sys2Proof/Certificates/Slice0/Obligations.lean ====
section
/-! DEFINITION. The statements about the SF-4 for the provers. `Acts c s t` is completion: `exec c s₀ = .next t` for
every s₀ whose turn for command c brings about s (`arrive c s₀ = s`; R1, `EmptyQueueEndsTheTick`); every state s₀ is
one in which c acts, in `arrive c s₀`. `(post c i a b s).ev` is the event queue and its counter once an event has
been generated in s (R147, R148; stated by `PostQueuesMergesOrMarks`). A command that is not named in a statement
is not meant by it. -/

open Sys2Proof Sys2Proof.Machine

/-! ### The machine -/

/-- A step takes the command at the front of the queue and runs it with the rest of the queue. -/
def Obligations.StepRunsTheFrontCommand : Prop :=
  ∀ (c : Instr) (rest : List Instr) (s : State),
    s.pending = c :: rest → step s = exec c { s with pending := rest }

/-- As the tick moves on to a slot, each lane whose slots are passed, lanes ascending, has what its last bit caused
completed: header extent, frame end, sync position, search match, polarity flip, each as its own row does it; and
when step 7 is reached a held message goes out while MASTER_EN is 1 (R1, R17, R35). Where nothing is left to complete
nothing happens.

With no command waiting a step is the rest of a tick (the model's choice, log entry 3). It moves on to the tick's end
so; the request is what INT_MASTER and the pending enabled sources make it, INTL is driven in LINE mode while it is 1
(R154), FLAG is kept and no longer newly set (R6), a pulse
loses a tick unless it was set in this one, each output pin takes the level of its mode (R141,
R142), and each count of ticks advances by one: the counter (R129), the SYNC watchdog (R134), a receiving line-fed
lane's watchdog but not while RESET_BUSY is 1 (R27, R178), the age of each read, old ones included (R15), of a
store operation (R169), and the running linger and moderation timers (R122, R156).

A command acts in its slot of the service order (R1, R108; the number of a slot and the place in the tick are the
model's, log entries 9 and 36): in this tick, or, where its slot has passed, in the next one. The slots of the listed
steps ascend in the order of R1 and, in the engine, of R108, lanes, lines and routes ascending; a store operation of a
boot load ends ahead of the host accesses, and one of a command in the command step. -/
def Obligations.EmptyQueueEndsTheTick : Prop :=
  let passed (k : Nat) (s : State) : State :=
    let u :=
      if s.ctl.resetBusy then s
      else
        (allLanes.filter (fun n => decide (3002 + 100 * n.val < k))).foldl
          (fun u n => flipAt n (syncFoundAt n (syncPositionAt n (frameEndAt n (headerExtentAt n u))))) s
    if 7000 ≤ k ∧ u.irq.held = true ∧ u.host.masterEn = true then
      { u with irq := { u.irq with held := false }, bus := u.bus ++ [.message] }
    else u
  (∀ s : State, s.pending = [] →
    ∃ t, step s = .next t ∧ t.pending = [] ∧ t.tb.ref = s.tb.ref + 1 ∧ t.tb.wdog = s.tb.wdog + 1
      ∧ t.ctl.resetTick = false ∧ t.irq.asked = false ∧ t.pos = 0
      ∧ (let u := passed 10000 s
        let req := u.host.intMaster && intActive u != 0#5
        t.irq.prevReq = req ∧ t.irq.intl = (req && !u.host.intMode)
          ∧ (∀ n, let g := u.trig n
            let pulse := if g.pulseFresh then g.pulse else g.pulse - 1
            (t.trig n).pulse = pulse ∧ (t.trig n).pulseFresh = false
              ∧ (t.trig n).flag = g.flag ∧ (t.trig n).flagNow = false
              ∧ (t.trig n).driven
                = if g.out = false then none
                  else some
                    (if g.omode = 1 then decide (pulse ≠ 0) ^^ g.oval
                     else if g.omode = 2 then g.flow ^^ g.oval else g.oval))
          ∧ (∀ n, let l := u.lane n
            let counts := l.st ≠ .off ∧ l.st ≠ .noclock ∧ l.inject = false ∧ u.ctl.resetBusy = false
            t.lane n = { l with wdog := if counts then l.wdog + 1 else l.wdog })
          ∧ (∀ r, let x := u.route r
            t.route r
              = { x with
                  read := x.read.map (fun q => { q with age := q.age + 1 })
                  buf := x.buf.map (fun b => { b with linger := b.linger.map (fun k => k + 1) }) })
          ∧ t.ctl.oldReads = u.ctl.oldReads.map (fun e => { e with age := e.age + 1 })
          ∧ t.irq.modTimer = u.irq.modTimer.map (fun k => k + 1)
          ∧ t.store = { u.store with op := u.store.op.map (fun o => { o with age := o.age + 1 }) }))
    ∧ (∀ (c : Instr) (s : State),
      (inOrder c s = false → arrive c s = arrive c (tick s))
        ∧ (inOrder c s = true → arrive c s = { passed (slot s c) s with pos := slot s c })
        ∧ (∀ k, quiet s = true → passed k s = s)
        ∧ (arrive c s).tb.ref = (if inOrder c s then s.tb.ref else s.tb.ref + 1))
    ∧ (∀ (n : Fin 4) (s : State),
      Acts (.headerExtent n) s (headerExtentAt n s) ∧ Acts (.frameEnd n) s (frameEndAt n s)
        ∧ Acts (.syncPosition n) s (syncPositionAt n s) ∧ Acts (.syncFound n) s (syncFoundAt n s)
        ∧ ((s.lane n).headerDue = false → (s.lane n).frameEndDue = false → (s.lane n).positionDue = false →
          (s.lane n).cmpDue = false → Acts (.polarityFlipped n) s (flipAt n s)))
    ∧ ∀ (o : BitVec 12) (data : Word) (up : Bool) (k : Nat) (s : State),
      let service : List Instr :=
        [.hostReset, .registerWrite o data] ++ allLanes.flatMap (fun n => [.injectBitFeed n, .frameEnd n])
          ++ allLanes.map (fun n => .triggerEdge n up) ++ [.syncEdge up, .syncMissing, .periodicTick, .nop]
          ++ allRoutes.map .descriptorReadTimeout ++ [.backlogDrain]
          ++ allRoutes.flatMap (fun r => [.lingerExpiry r, .bufferCloseStop r, .bufferCloseQuiesce r])
          ++ allRoutes.map .completionEntry ++ allRoutes.map .cancelEntry ++ allRoutes.map .routeDrained
          ++ allRoutes.map .bufferOpen ++ [.recordPlace] ++ allRoutes.map .descriptorFetch
          ++ [.quiesced, .moderationTimerExpiry] ++ allLanes.map .pulseEnd
      (service.map (slot s)).Pairwise (· < ·)
        ∧ (s.ctl.loading = true → slot s .hostReset < slot s .storeOperationFail
            ∧ slot s .storeOperationFail < slot s (.registerWrite o data))
        ∧ (s.ctl.loading = false → slot s .storeOperationFail = slot s .nop)
        ∧ slot s (.bufferOpen 15) < slot s (.payloadWrite k) ∧ slot s (.payloadWrite k) < slot s (.descriptorFetch 0)
        ∧ (s.irq.held = true → s.host.masterEn = true →
            slot s .nop < slot s .interruptMessage ∧ slot s .interruptMessage < slot s (.descriptorReadTimeout 0))
        ∧ (s.irq.held = false ∨ s.host.masterEn = false →
            slot s .moderationTimerExpiry < slot s .interruptMessage
              ∧ slot s .interruptMessage < slot s (.pulseEnd 0))

/-- No command stops the machine, whatever its operands and the state (read from the rules, log entry 4). None
touches the commands that wait behind it, and each leaves the tick at the command's own slot; the queue and the
place in the tick are the model's fields (log entry 9). -/
def Obligations.EveryCommandRunsAndKeepsTheQueue : Prop :=
  ∀ (i : Instr) (s : State), ∃ t, exec i s = .next t ∧ t.pending = s.pending ∧ t.pos = (arrive i s).pos

/-- The whole invariant holds right after power-on reset. -/
def Obligations.ResetMeetsTheInvariant : Prop :=
  EventsOk State.reset ∧ FifoOk State.reset ∧ MemOk State.reset ∧ CachesOk State.reset ∧ BacklogOk State.reset
    ∧ SlbOk State.reset ∧ ConfigOk State.reset ∧ BlocksOk State.reset

/-! ### Invariants that every step keeps -/

/-- The event queue never holds more than 64 entries, and its 64th can only be a loss marker (R148).

The command FIFO never holds more than eight commands (R159), and SLB stays within 64 to 256 (R168).

Power-on reset is the only occurrence that lowers SLB (R175, R168). -/
def Obligations.StepKeepsTheEventQueueAndFifo : Prop :=
  (∀ s t : State, EventsOk s → step s = .next t → EventsOk t)
    ∧ ((∀ s t : State, FifoOk s → step s = .next t → FifoOk t)
    ∧ ∀ s t : State, SlbOk s → step s = .next t → SlbOk t)
    ∧ (∀ s t : State, (∀ rest, s.pending ≠ .powerOnReset :: rest) → step s = .next t → s.store.slb ≤ t.store.slb)

/-- Each of the 16384 blocks is always in exactly one place: the free list, the chain of one frame in assembly, or
the chain of one queued record (R69, R84, R85). -/
def Obligations.StepKeepsEveryBlockInOnePlace : Prop :=
  ∀ s t : State, BlocksOk s → step s = .next t → BlocksOk t

/-- Buffer memory keeps its canonical form: addresses rising, and no byte listed that equals what an unlisted
address reads as. The form and that reading are the model's representation of the bytes of R68, not the
manual's (log entry 6). -/
def Obligations.StepKeepsMemoryCanonical : Prop :=
  ∀ s t : State, MemOk s → step s = .next t → MemOk t

/-- A descriptor cache never holds more than four entries, what its read will bring included (R111, R112).

The backlog holds at most one entry per route, and a route with one owns no buffer (R116, R127). -/
def Obligations.StepKeepsCachesAndBacklog : Prop :=
  (∀ s t : State, CachesOk s → step s = .next t → CachesOk t)
    ∧ (∀ s t : State, BacklogOk s → step s = .next t → BacklogOk t)

/-- No register field ever holds an encoding that stands for no value (R21, R89, R137, R156). -/
def Obligations.StepKeepsFieldsLegal : Prop :=
  ∀ s t : State, ConfigOk s → step s = .next t → ConfigOk t

/-! ### Rules of the whole machine -/

/-- Only a power-on reset and the epoch loads set the reference counter (R129); every other command leaves it, and
with it EPOCH_ARM's load, alone, but for the one tick that passes where the command can come only in the next
one (log entry 3). -/
def Obligations.OnlyEpochLoadsSetTheCounter : Prop :=
  ∀ (i : Instr) (s t : State), mayLoadCounter i = false → exec i s = .next t →
    t.tb.ref = if inOrder i s then s.tb.ref else s.tb.ref + 1

/-- While MASTER_EN is 0 no step issues a bus-master transaction, whatever the step is (R14).

Only delivery engine steps and the interrupt message issue transactions (R13): any other command issues none, and
what comes about as the tick moves on to it is interrupt messages alone. What has been issued is never taken
back. -/
def Obligations.TransactionsNeedTheEngineAndMasterEn : Prop :=
  (∀ s t : State, s.host.masterEn = false → step s = .next t → t.bus = s.bus)
    ∧ (∀ (i : Instr) (s t : State), mayIssue i = false → exec i s = .next t → t.bus = (arrive i s).bus)
    ∧ (∀ (i : Instr) (s : State), ∃ k, (arrive i s).bus = s.bus ++ List.replicate k .message)
    ∧ ∀ (i : Instr) (s t : State), exec i s = .next t → s.bus <+: t.bus

/-- While LOADING or RESET_BUSY is 1 every host write is ignored: no register, no FIFO, no event changes (R8). -/
def Obligations.HostWritesIgnoredWhileBusy : Prop :=
  ∀ (i : Instr) (s : State), isHostWrite i = true → s.ctl.loading = true ∨ s.ctl.resetBusy = true →
    Acts i s s

/-- DEVID reads 0x5F040001 in every state, whatever reset or store content made it; the identity data the store
supplied is presented in the store region instead, one word for each of its six registers (R10). -/
def Obligations.DevidIsConstant : Prop :=
  ∀ s : State, readWord s 0x000 = 0x5F040001#32 ∧ ∀ k : Fin 6, readWord s (0xB00 + 4 * k.val) = s.store.ids[k.val]

/-- The register window has each register at one aligned offset below 4096, and each offset names one register:
reading the map at a register's offset gives that register, and an offset that names a register is its own. -/
def Obligations.RegisterMapRoundTrip : Prop :=
  (∀ r : Reg, regAt (regOffset r) = some r ∧ regOffset r % 4 = 0 ∧ regOffset r < 4096)
    ∧ ∀ (o : Nat) (r : Reg), regAt o = some r → regOffset r = o

/-- What generating an event does (R147, R148): the sequence counter advances by one; a routine event is appended
while fewer than 48 entries are held and an essential one while fewer than 63 are, with its SEQ, its time and
its details; an event lost behind a loss marker adds one to the marker's count and its class to the mask; any
other lost event becomes a new marker. -/
def Obligations.PostQueuesMergesOrMarks : Prop :=
  ∀ (cause src : Byte) (a b : Word) (s : State),
    let e : Event := { cause := cause, source := src, seq := s.ev.seq, time := loWord s.tb.ref, a := a, b := b }
    let room := if essential cause then 63 else 48
    let cls : Word := BitVec.ofNat 32 (2 ^ (cause.toNat / 16))
    (post cause src a b s).ev.seq = s.ev.seq + 1
      ∧ (s.ev.queue.length < room → (post cause src a b s).ev.queue = s.ev.queue ++ [e])
      ∧ (∀ (q : List Event) (m : Event), room ≤ s.ev.queue.length → s.ev.queue = q ++ [m] → m.isMarker = true →
          (post cause src a b s).ev.queue
            = q ++ [{ m with a := if m.a = 0xFFFFFFFF#32 then m.a else m.a + 1, b := m.b ||| cls }])
      ∧ (∀ (q : List Event) (m : Event), room ≤ s.ev.queue.length → s.ev.queue.length < 64 →
          s.ev.queue = q ++ [m] → m.isMarker = false →
          (post cause src a b s).ev.queue
            = q ++ [m, { cause := 0xF0, source := 0xFF, seq := e.seq, time := e.time, a := 1, b := cls }])

/-! ### Resets -/

/-- Power-on reset gives every piece of state its power-on value, and host reset the same but for the reference
counter and SLB (R175, R176). What went out on the host link and what waits in the queue are no state of the
SF-4 (the model's fields bus, hostData and pending). That an output's pin is released in this very step, and not at
the end of the tick, is the model's choice (log entry 37).

Power-on reset leaves the values the spec gives (TABLE 12-1): among them LOADING alone set in DEVSTAT, every
lane OFF with LCTL 0x00001040, LFMT 0x00003300 and LINJC 4, the free list full and ascending, levels 1024 and
32, every route DISABLED with quota 1024, completion phase 1, last route served 15, CMPMOD 1, SLB 64, and no
frame, record, event or command. -/
def Obligations.PowerOnAndHostReset : Prop :=
  (∀ s : State,
    Acts .powerOnReset s { State.reset with bus := s.bus, hostData := s.hostData, pending := s.pending }
      ∧ Acts .hostReset s
          { State.reset with
            tb := { Timebase.reset with ref := s.tb.ref }, store := { Store.reset with slb := s.store.slb }
            bus := s.bus, hostData := s.hostData, pending := s.pending })
    ∧ (devStat State.reset = 1 ∧ State.reset.tb.ref = 0 ∧ State.reset.store.slb = 64
    ∧ (∀ n : Fin 4, State.reset.lane n = Lane.reset) ∧ Lane.reset.st = .off ∧ Lane.reset.lctl = 0x00001040
    ∧ Lane.reset.lfmt = 0x00003300 ∧ Lane.reset.linjc = 4 ∧ Lane.reset.frame = none
    ∧ State.reset.buf.free = List.range' 0 16384 ∧ State.reset.buf.bshed = 1024
    ∧ State.reset.buf.breserve = 32
    ∧ (∀ r : Fin 16, (State.reset.route r).st = .disabled ∧ (State.reset.route r).quota = 1024
        ∧ (State.reset.route r).queue = [] ∧ (State.reset.route r).rpost = 0)
    ∧ (∀ i : Fin 32, (State.reset.entry i).valid = false)
    ∧ (∀ n : Fin 4, (State.reset.trig n).cfg = 0)
    ∧ State.reset.eng.phase = true ∧ State.reset.eng.crEnable = false ∧ State.reset.eng.lastServed = 15
    ∧ State.reset.irq.cmpCount = 1 ∧ State.reset.irq.cmpTimer = 0 ∧ State.reset.ev = ⟨[], 0⟩
    ∧ State.reset.cmd.fifo = [])

/-- A device reset clears every frame, record, queue, buffer and count in flight and keeps the configuration (R177,
TABLE 12-1). The reads outstanding are the routes' no longer: they are noted, with their numbers and ages, to be
waited for and reported (R178). An enabled lane is in SEARCH with an empty history and the polarity POLMODE gives
(R30, R52). The command port keeps only SNAPPAGE (R166), the moderation count is 0 with its timer stopped, and the
previous request is taken as 0 (R154, R156). A FLOW output is evaluated with no block held; with OFFLVL 0 that makes it
inactive (R143), where R144 says active: the model's reading, log entry 15. -/
def Obligations.DeviceResetClearsTheDatapath : Prop :=
  ∀ (data : Word) (s : State), s.ctl.loading = false → s.ctl.resetBusy = false → data.getLsbD 31 = true →
    ∃ t, Acts (.deviceReset data) s t
      ∧ t.host = { s.host with
          masterEn := data.getLsbD 0, intMaster := data.getLsbD 1, intMode := data.getLsbD 2, accerr := 0
          shadowRef := 0, shadowSync := 0 }
      ∧ (let reads : List OldRead :=
          allRoutes.filterMap (fun r =>
            ((s.route r).read).map (fun q => { route := r, n := q.n, age := q.age }))
        t.ctl
          = { s.ctl with
              resetBusy := true, quiescing := false, quiesced := false, oldReads := reads
              readsAtReset := reads.length, readTimeouts := 0 })
      ∧ (∀ n, (t.lane n).st = (if (s.lane n).st = .off then .off else .search) ∧ (t.lane n).frame = none
          ∧ (t.lane n).fifo = [] ∧ (t.lane n).marks = Vector.replicate 4 none
          ∧ (t.lane n).ctr = Vector.replicate 8 0 ∧ (t.lane n).lrate = 0
          ∧ (∀ reg, (t.lane n).reg reg = (s.lane n).reg reg) ∧ (t.lane n).linjc = (s.lane n).linjc
          ∧ (t.lane n).lastChk = (s.lane n).lastChk ∧ (t.lane n).feed = none ∧ (t.lane n).asm = none
          ∧ (t.lane n).rateTally = 0 ∧ (t.lane n).tally = 0 ∧ (t.lane n).histLen = 0 ∧ (t.lane n).dwell = 0
          ∧ ((s.lane n).st ≠ .off → (t.lane n).pol = (!(s.lane n).inject && (s.lane n).polMode == 2)))
      ∧ (∀ i, t.entry i = { s.entry i with expected := 0, synced := false, hits := 0 })
      ∧ t.buf.free = List.range' 0 16384 ∧ t.buf.lowFree = 16384 ∧ t.buf.shed = false
      ∧ t.buf.exhausted = false ∧ t.buf.bshed = s.buf.bshed ∧ t.buf.breserve = s.buf.breserve
      ∧ (∀ r, (t.route r).st = .disabled ∧ (t.route r).queue = [] ∧ (t.route r).cache = []
          ∧ (t.route r).buf = none ∧ (t.route r).read = none ∧ (t.route r).rpost = 0 ∧ (t.route r).rfetch = 0 ∧ (t.route r).rdone = 0
          ∧ (t.route r).ctr = Vector.replicate 12 0 ∧ (t.route r).serial = 0 ∧ (t.route r).rbcnt = 0
          ∧ (t.route r).rcsel = (s.route r).rcsel ∧ ∀ reg, (t.route r).reg reg = (s.route r).reg reg)
      ∧ t.eng = { s.eng with
          crprod := 0, phase := true, crcons := 0, backlog := [], backlogMax := 0, inProg := none
          lastServed := 15 }
      ∧ t.tb = { s.tb with armed := false }
      ∧ (∀ n, (t.trig n).cfg = (s.trig n).cfg ∧ (t.trig n).arg = (s.trig n).arg
          ∧ (t.trig n).filter = (s.trig n).filter ∧ (t.trig n).flag = false ∧ (t.trig n).flagNow = false
          ∧ (t.trig n).edges = 0
          ∧ (t.trig n).time = 0 ∧ (t.trig n).shadow = 0 ∧ (t.trig n).pulse = 0
          ∧ (t.trig n).driven = (s.trig n).driven
          ∧ (t.trig n).flow
            = (if (s.trig n).out = true ∧ (s.trig n).omode = 2 then decide (0 < fieldOf (s.trig n).arg 14 14)
               else (s.trig n).flow))
      ∧ t.ev = { queue := [], seq := 0 }
      ∧ t.irq.compl = false ∧ t.irq.tick = false ∧ t.irq.sync = false ∧ t.irq.held = false ∧ t.irq.intl = false
      ∧ t.irq.inten = s.irq.inten ∧ t.irq.cmpCount = s.irq.cmpCount ∧ t.irq.cmpTimer = s.irq.cmpTimer
      ∧ t.irq.modCount = 0 ∧ t.irq.modTimer = none ∧ t.irq.prevReq = false
      ∧ t.cmd
        = { arg0 := 0, arg1 := 0, fifo := [], busy := false, snapPage := s.cmd.snapPage, snapInfo := 0, snapTime := 0
            snapLanes := Vector.replicate 4 (Vector.replicate 8 0)
            snapRoutes := Vector.replicate 16 (Vector.replicate 12 0) }
      ∧ t.store = { s.store with op := none, job := .idle }
      ∧ t.bus = s.bus ∧ t.pending = s.pending

/-- The device reset ends when no read issued before it is outstanding: RESET_BUSY falls, 0xA1 counts the reads and
those of them that timed out, and each enabled lane starts as at enable (R178). -/
def Obligations.ResetDoneWaitsForOldReads : Prop :=
  ∀ s : State, s.ctl.resetBusy = true →
    (s.ctl.oldReads = [] →
      Acts .resetDone s
        { s with
          ctl := { s.ctl with resetBusy := false }
          ev := (post 0xA1 0xFF (BitVec.ofNat 32 s.ctl.readsAtReset) (BitVec.ofNat 32 s.ctl.readTimeouts) s).ev
          lanes := mapVec (fun l => if l.st = .off then l else l.start) s.lanes })
      ∧ (s.ctl.oldReads ≠ [] → Acts .resetDone s s)

/-! ### The configuration store -/

/-- A store operation that ends in time: a load reads on, word by word; after word 63 a good checksum loads
words 0 to 5 and a bad one sets IDBAD, and the preset phase begins at word 64; a STORE_READ ends with OK and the
word, a STORE_WRITE with OK and the data written (R169, R170, R173, R174).

The boot load begins with a read of word 0, in a tick in which no power-on or host reset acts (R170, R175,
R176). -/
def Obligations.StoreOperationDoneMovesOn : Prop :=
  (∀ (data : Word) (o : StoreOp) (s : State), s.store.op = some o → o.age < 625000 →
    let reads (job : StoreJob) : State :=
      { s with store := { s.store with op := some { word := o.word + 1, age := 0 }, job := job } }
    (∀ ws, s.store.job = .bootIdentity ws → o.word < 63 →
        Acts (.storeOperationDone data) s (reads (.bootIdentity (ws ++ [data]))))
      ∧ (∀ ws, s.store.job = .bootPreset ws → o.word < 127 →
        Acts (.storeOperationDone data) s (reads (.bootPreset (ws ++ [data]))))
      ∧ (∀ ws, s.store.job = .reload ws → o.word < 127 →
        Acts (.storeOperationDone data) s (reads (.reload (ws ++ [data]))))
      ∧ (∀ ws, s.store.job = .bootIdentity ws → o.word = 63 →
        Acts (.storeOperationDone data) s
          { s with
            store :=
              { s.store with
                idBad := decide ((ws ++ [data]).sum ≠ 0)
                ids :=
                  if (ws ++ [data]).sum = 0 then
                    #v[(ws ++ [data]).getD 0 0, (ws ++ [data]).getD 1 0, (ws ++ [data]).getD 2 0,
                      (ws ++ [data]).getD 3 0, (ws ++ [data]).getD 4 0, (ws ++ [data]).getD 5 0]
                  else s.store.ids
                op := some { word := 64, age := 0 }, job := .bootPreset [] } })
      ∧ (∀ (c : Cmd) (rest : List Cmd) (d : Word), s.cmd.fifo = c :: rest →
        s.store.job = .cmdRead ∧ d = data ∨ s.store.job = .cmdWrite d →
        Acts (.storeOperationDone data) s
          { s with
            store := { s.store with op := none, job := .idle }
            ev := (post 0x10 c.target c.detail d s).ev
            cmd := { s.cmd with fifo := rest, busy := false } }))
    ∧ (∀ s : State, s.ctl.loading = true → s.store.job = .bootWait →
    (s.ctl.resetTick = false →
        Acts .bootLoadStart s
          { s with store := { s.store with op := some { word := 0, age := 0 }, job := .bootIdentity [] } })
      ∧ (s.ctl.resetTick = true → Acts .bootLoadStart s s))

/-- A load whose last read ends: a list that is rejected (magic, pair count, checksum, in that order) posts 0x81
with its code; an accepted one has its pairs applied in order, and 0x80 reports how many were applied and how
many skipped. A boot load then sets LOADING to 0, and a reload ends its command with OK and the applied count
(R170, R172, R174).

The pairs act one after another, each counted as applied or skipped. A pair whose offset is not a word of
TABLE 11-2 is skipped and writes nothing. Any other is the write of its register, less every event (R171; for
BSHED log entry 34), stated where no lane has a frame in assembly; it is skipped where the write is refused
or the enable fails its check. A preset of DEVCTL sets its three RW fields, drops a held message for LINE and
releases INTL for MESSAGE, and changes nothing else, whatever its bit 31: no reset begins (TABLE 11-2, R11, R17,
R154).

A store operation that has run for 10 ms fails: a boot load ends with 0x82, its word and its phase, with no
preset applied, and IDBAD set if it was in the identity phase; a STORE_READ or STORE_WRITE ends with STORE_FAIL;
a reload ends with 0x82 of phase 2 and then STORE_FAIL (R169, R170, R172 to R174). -/
def Obligations.LoadsEndWithTheirOutcome : Prop :=
  (∀ (data : Word) (o : StoreOp) (ws : List Word) (s : State), s.store.op = some o → o.age < 625000 →
    o.word = 127 →
    let list := ws ++ [data]
    let h := (list.getD 0 0).toNat
    let code := if h / 65536 ≠ 0x5052 then 1 else if 31 < h % 256 then 2 else if list.sum ≠ 0 then 3 else 0
    let ends (last : BitVec 2) (a k : Nat) (u : State) : Store :=
      { u.store with last := last, applied := a, skipped := k, op := none, job := .idle }
    let rejected : State := post 0x81 0xFF (BitVec.ofNat 32 code) (BitVec.ofNat 32 (bit s.store.idBad)) s
    let told (a k : Nat) (u : State) : State :=
      post 0x80 0xFF (BitVec.ofNat 32 a) (packWord [(bit u.store.idBad, 0), (k, 8)]) u
    (s.store.job = .bootPreset ws →
        (code ≠ 0 →
            Acts (.storeOperationDone data) s
              { s with store := ends 2 0 0 s, ctl := { s.ctl with loading := false }, ev := rejected.ev })
          ∧ (code = 0 →
            ∃ (u : State) (a k : Nat), applyPairs (takePairs (h % 256) (list.drop 1)) s = (u, a, k)
              ∧ Acts (.storeOperationDone data) s
                { u with store := ends 1 a k u, ctl := { u.ctl with loading := false }, ev := (told a k u).ev }))
      ∧ (∀ (c : Cmd) (rest : List Cmd), s.store.job = .reload ws → s.cmd.fifo = c :: rest →
        let cmd : CmdPort := { s.cmd with fifo := rest, busy := false }
        (code ≠ 0 →
            Acts (.storeOperationDone data) s
              { s with store := ends 2 0 0 s, ev := (post 0x10 c.target c.detail 0 rejected).ev, cmd := cmd })
          ∧ (code = 0 →
            ∃ (u : State) (a k : Nat), applyPairs (takePairs (h % 256) (list.drop 1)) s = (u, a, k)
              ∧ Acts (.storeOperationDone data) s
                { u with
                  store := ends 1 a k u
                  ev := (post 0x10 c.target c.detail (BitVec.ofNat 32 a) (told a k u)).ev, cmd := cmd })))
    ∧ (∀ (o v : Word) (ps : List (Word × Word)) (s : State),
      let u := (applyPair (o, v) s).1
      let ok := (applyPair (o, v) s).2
      applyPairs [] s = (s, 0, 0)
        ∧ applyPairs ((o, v) :: ps) s
          = ((applyPairs ps u).1, (applyPairs ps u).2.1 + bit ok, (applyPairs ps u).2.2 + bit (!ok))
        ∧ (applyPairs ps s).2.1 + (applyPairs ps s).2.2 = ps.length
        ∧ ((∀ r, presettable r = true → o.toNat ≠ regOffset r) → u = s ∧ ok = false)
        ∧ ∀ r, presettable r = true → o.toNat = regOffset r →
          ((∀ n, (s.lane n).frame = none) → (r = .devctl → v.getLsbD 31 = false) →
              u = { (writeReg true v s r).1 with ev := s.ev })
            ∧ (r = .devctl →
              u = { s with
                    host :=
                      { s.host with
                        masterEn := v.getLsbD 0, intMaster := v.getLsbD 1, intMode := v.getLsbD 2 }
                    irq :=
                      { s.irq with
                        held := s.irq.held && v.getLsbD 2, intl := s.irq.intl && !v.getLsbD 2 } })
            ∧ ok
              = (match r with
                 | .lane n .lctl =>
                   let l := s.lane n
                   let new := laneRegValue .lctl l.lctl v
                   if l.st = .off then !v.getLsbD 0 || ({ l with lctl := new } : Lane).checkCode == 0
                   else new == l.lctl
                 | .lane n _ => (s.lane n).st == .off
                 | .window w _ => decide (∀ q, (s.route q).window = w → (s.route q).st = .disabled)
                 | .crbase _ | .crcfg => decide (∀ q, (s.route q).st = .disabled)
                 | .route q _ => (s.route q).st == .disabled
                 | _ => true))
    ∧ (∀ o : Nat, (∃ r, presettable r = true ∧ regOffset r = o) ↔
      o ∈ [0x004, 0x018, 0x01C, 0x028, 0x044, 0x04C, 0x284, 0x288, 0x2C0, 0x2C4, 0x2C8]
        ∨ (0x100 ≤ o ∧ o < 0x200 ∧ o % 64 ∈ [0, 4, 8, 12]) ∨ (0x200 ≤ o ∧ o < 0x240 ∧ o % 16 ∈ [0, 4])
        ∨ (0x240 ≤ o ∧ o < 0x280 ∧ o % 4 = 0) ∨ (0x400 ≤ o ∧ o < 0x800 ∧ o % 64 ≤ 24 ∧ o % 4 = 0))
    ∧ (∀ (o : StoreOp) (s : State), s.store.op = some o → 625000 ≤ o.age →
    (∀ ws, s.store.job = .bootIdentity ws →
        Acts .storeOperationFail s
          { s with
            store :=
              { s.store with idBad := true, last := 3, applied := 0, skipped := 0, op := none, job := .idle }
            ctl := { s.ctl with loading := false }
            ev := (post 0x82 0xFF (BitVec.ofNat 32 o.word) 0 s).ev })
      ∧ (∀ ws, s.store.job = .bootPreset ws →
        Acts .storeOperationFail s
          { s with
            store := { s.store with last := 3, applied := 0, skipped := 0, op := none, job := .idle }
            ctl := { s.ctl with loading := false }
            ev := (post 0x82 0xFF (BitVec.ofNat 32 o.word) 1 s).ev })
      ∧ (∀ (c : Cmd) (rest : List Cmd), s.cmd.fifo = c :: rest →
        (s.store.job = .cmdRead ∨ ∃ d, s.store.job = .cmdWrite d) →
        Acts .storeOperationFail s
          { s with
            store := { s.store with op := none, job := .idle }
            ev := (post 0x15 c.target c.detail 0 s).ev
            cmd := { s.cmd with fifo := rest, busy := false } })
      ∧ (∀ (c : Cmd) (rest : List Cmd) (ws : List Word), s.cmd.fifo = c :: rest → s.store.job = .reload ws →
        Acts .storeOperationFail s
          { s with
            store := { s.store with last := 3, applied := 0, skipped := 0, op := none, job := .idle }
            ev := (post 0x15 c.target c.detail 0 (post 0x82 0xFF (BitVec.ofNat 32 o.word) 2 s)).ev
            cmd := { s.cmd with fifo := rest, busy := false } }))

/-- STORE_READ and STORE_WRITE hold the port for a word the store has and SLB lets be written; a word number above
255 ends in BAD_ARG and a protected one in PROTECTED, with the memory not touched (R160, R173).

STORE_LOCK only raises SLB: a boundary above 256 is BAD_ARG, one below SLB PROTECTED, SLB itself NOCHANGE, and
any other takes effect; detail B is SLB after the command (R173).

STORE_RELOAD begins the preset phase, holding the port, only while every lane is OFF and every route DISABLED;
otherwise it ends in BAD_STATE (R174). -/
def Obligations.StoreCommandsStart : Prop :=
  (∀ (c : Cmd) (rest : List Cmd) (s : State), Ready s c rest → c.target = 0 →
    let ends (code : Byte) : State :=
      { s with ev := (post code c.target c.detail 0 s).ev, cmd := { s.cmd with fifo := rest } }
    let holds (job : StoreJob) : State :=
      { s with
        store := { s.store with op := some { word := c.arg0.toNat, age := 0 }, job := job }
        cmd := { s.cmd with busy := true } }
    (c.op = 0x40 →
        Acts .storeRead s (if 255 < c.arg0.toNat then ends 0x14 else holds .cmdRead))
      ∧ (c.op = 0x41 →
        Acts .storeWrite s
          (if 255 < c.arg0.toNat then ends 0x14
           else if c.arg0.toNat < s.store.slb then ends 0x16
           else holds (.cmdWrite c.arg1))))
    ∧ (∀ (c : Cmd) (rest : List Cmd) (s : State), Ready s c rest → c.op = 0x42 → c.target = 0 →
    let x := c.arg0.toNat
    let ends (code : Byte) (slb : Nat) : State :=
      { s with
        ev := (post code c.target c.detail (BitVec.ofNat 32 slb) s).ev
        cmd := { s.cmd with fifo := rest }
        store := { s.store with slb := slb } }
    Acts .storeLock s
      (if 256 < x then ends 0x14 s.store.slb
       else if x < s.store.slb then ends 0x16 s.store.slb
       else if x = s.store.slb then ends 0x11 s.store.slb
       else ends 0x10 x))
    ∧ (∀ (c : Cmd) (rest : List Cmd) (s : State), Ready s c rest → c.op = 0x43 → c.target = 0 →
    ((∀ n, (s.lane n).st = .off) → (∀ r, (s.route r).st = .disabled) →
        Acts .storeReload s
          { s with
            store := { s.store with op := some { word := 64, age := 0 }, job := .reload [] }
            cmd := { s.cmd with busy := true } })
      ∧ ((∃ n, (s.lane n).st ≠ .off) ∨ (∃ r, (s.route r).st ≠ .disabled) →
        Acts .storeReload s
          { s with ev := (post 0x12 c.target c.detail 0 s).ev, cmd := { s.cmd with fifo := rest } }))

/-! ### The host port -/

/-- A misaligned, partial or multi-word access is refused whole: a read returns ones, no register changes, and,
except while LOADING or RESET_BUSY is 1, ACCERR describes the access and 0x90 is posted (R4).

A REGISTER_WRITE at an offset that is not a multiple of 4 is refused in the same way; the byte enables it is
described with, those of a four-byte access in its first word, are the model's choice (log entry 23). -/
def Obligations.RefusedAccessIsReported : Prop :=
  (∀ (offset : BitVec 12) (write : Bool) (bytes : BitVec 4) (multi : Bool) (data : Word) (s : State),
    offset.toNat % 4 ≠ 0 ∨ bytes ≠ 0xF#4 ∨ multi = true →
    let w := packWord [(offset.toNat, 0), (bit write, 12), (bytes.toNat, 16), (1, 31)]
    let ones := if write then s.hostData else 0xFFFFFFFF#32
    (s.ctl.loading = false ∧ s.ctl.resetBusy = false →
        Acts (.accessError offset write bytes multi data) s
          { s with
            hostData := ones
            host := { s.host with accerr := w }
            ev := (post 0x90 0xFF w (if write then data else 0) s).ev })
      ∧ (s.ctl.loading = true ∨ s.ctl.resetBusy = true →
        Acts (.accessError offset write bytes multi data) s { s with hostData := ones }))
    ∧ ∀ (offset : BitVec 12) (data : Word) (s : State), offset.toNat % 4 ≠ 0 →
      let w := packWord [(offset.toNat, 0), (1, 12), ((0xF#4 <<< (offset.toNat % 4)).toNat, 16), (1, 31)]
      (s.ctl.loading = false ∧ s.ctl.resetBusy = false →
          Acts (.registerWrite offset data) s
            { s with host := { s.host with accerr := w }, ev := (post 0x90 0xFF w data s).ev })
        ∧ (s.ctl.loading = true ∨ s.ctl.resetBusy = true → Acts (.registerWrite offset data) s s)

/-- A write to an aligned offset with no register, or to a read-only register, changes nothing; a plain RW register
reads back the defined bits of what was written (R5, R6).

A read of a latched pair's LO word returns the LO half and copies the HI half to that pair's shadow, which a
later HI read returns; nothing else changes (R9). A read of any other word changes nothing (R7; that the row of
refused accesses carries out an aligned one is log entry 23).

INTSTAT shows the five sources, and INTIDENT 1 plus the number of the lowest one that is pending and enabled, or 0
(R152, R153). EVW0 to EVW3 show the head event, 0 while the queue is empty, and EVSTAT the entries held, whether
the newest is a loss marker, and the next SEQ (R149).

DEVSTAT, LSTAT and LRATE, the lane counters, BFREE, BSTAT, CRPROD, CRCONS, CRBACK, RSTAT and the words about it, RCVAL,
the match mirror and HITS, CMDSTAT, CMPSTAT, STSLB and STSTAT, and the snapshot area by page, each at its offset, show
the conditions, counts and copies their chapters name (R12, R18, R55, R86, R91, R106, R125, R156, R158, R165, R168).

A LINJC write holds bits 0 to 2 if they are 1 to 4, in every lane state, and else leaves LINJC (R21, R31). An INTSTAT
write with bit 1 at 0 clears TICK and SYNC by their bits and nothing else (R152). -/
def Obligations.RegisterReadsAndWrites : Prop :=
  (∀ (o : BitVec 12) (data : Word) (s : State), o.toNat % 4 = 0 →
    (regAt o.toNat = none → Acts (.registerWrite o data) s s)
      ∧ (∀ r, regAt o.toNat = some r → isReadOnly r = true → Acts (.registerWrite o data) s s)
      ∧ (∀ r mask, regAt o.toNat = some r → plainMask r = some mask →
        s.ctl.loading = false → s.ctl.resetBusy = false →
        ∃ t, Acts (.registerWrite o data) s t ∧ readWord t o.toNat = data &&& mask)
      ∧ ((∀ pair, regAt o.toNat ≠ some (latchedLo pair)) →
        Acts (.accessError o false 0xF false data) s { s with hostData := readWord s o.toNat }))
    ∧ (∀ s : State,
    Acts (.latchedLoRead .ref) s
        { s with hostData := loWord s.tb.ref, host := { s.host with shadowRef := hiWord s.tb.ref } }
      ∧ Acts (.latchedLoRead .syncCap) s
        { s with hostData := loWord s.tb.syncCap, host := { s.host with shadowSync := hiWord s.tb.syncCap } }
      ∧ (∀ n, Acts (.latchedLoRead (.tgTime n)) s
        { s with
          hostData := loWord (s.trig n).time
          trigs := s.trigs.set n.val { s.trig n with shadow := hiWord (s.trig n).time } })
      ∧ readReg s .refHi = s.host.shadowRef ∧ readReg s .syncCapHi = s.host.shadowSync
      ∧ ∀ n, readReg s (.tgtimeHi n) = (s.trig n).shadow)
    ∧ ∀ s : State,
      let source (k : Nat) : Bool :=
        [!s.ev.queue.isEmpty, s.irq.compl, decide (∃ n, (s.trig n).flag = true ∧ (s.trig n).ie = true), s.irq.tick,
          s.irq.sync].getD k false
      let active (k : Nat) : Bool := source k && s.irq.inten.getLsbD k
      (∀ k, (readReg s .intstat).getLsbD k = source k)
        ∧ (∀ k, k < 5 →
          (readReg s .intident = BitVec.ofNat 32 (k + 1) ↔ active k = true ∧ ∀ j, j < k → active j = false))
        ∧ (readReg s .intident = 0 ↔ ∀ k, k < 5 → active k = false)
        ∧ (∀ e rest, s.ev.queue = e :: rest →
          readReg s (.evw 0) = packWord [(e.cause.toNat, 0), (e.source.toNat, 8), (e.seq.toNat, 16)]
            ∧ readReg s (.evw 1) = e.time ∧ readReg s (.evw 2) = e.a ∧ readReg s (.evw 3) = e.b)
        ∧ (s.ev.queue = [] → ∀ k, readReg s (.evw k) = 0)
        ∧ readReg s .evstat
          = packWord
              [(s.ev.queue.length, 0), (bit (s.ev.queue.getLast?.any (fun e => e.cause == 0xF0)), 8),
                (s.ev.seq.toNat, 16)]
        ∧ readWord s 0x008
          = packWord
              [(bit s.ctl.loading, 0), (bit s.ctl.resetBusy, 1), (bit s.ctl.quiescing, 2), (bit s.ctl.quiesced, 3),
                (bit (decide (s.eng.backlog ≠ [])), 4), (bit s.buf.shed, 5), (bit s.buf.exhausted, 6)]
        ∧ (∀ n : Fin 4, let l := s.lane n
          let at_ := 0x100 + 64 * n.val
          readWord s (at_ + 0x10)
              = packWord
                  [((match l.st with
                      | .off => 0 | .noclock => 1 | .search => 2 | .verify => 3 | .locked => 4 | .coast => 5), 0),
                    (bit l.pol, 4), (l.fifo.length, 8), (l.lastChk.toNat, 16)]
            ∧ readWord s at_ = l.lctl ||| (if l.st = .off then 0 else 1) ∧ readWord s (at_ + 0x14) = l.lrate
            ∧ (readWord s (at_ + 0x18)).toNat = l.linjc.toNat
            ∧ ∀ k : Fin 8, readWord s (at_ + 0x20 + 4 * k.val) = l.ctr[k.val])
        ∧ (readWord s 0x280 = BitVec.ofNat 32 s.buf.free.length
          ∧ readWord s 0x28C = packWord [(bit s.buf.shed, 0), (bit s.buf.exhausted, 1), (s.buf.lowFree, 16)])
        ∧ (readWord s 0x2CC = packWord [(s.eng.crprod.toNat, 0), (bit s.eng.phase, 16)]
          ∧ readWord s 0x2D0 = BitVec.ofNat 32 s.eng.crcons.toNat
          ∧ readWord s 0x2D4 = BitVec.ofNat 32 s.eng.backlog.length)
        ∧ (∀ r : Fin 16, let x := s.route r
          let at_ := 0x400 + 64 * r.val
          let code (st : RouteState) : Nat :=
            match st with
            | .disabled => 0 | .armed => 1 | .running => 2 | .stopping => 3 | .aborting => 4 | .halted => 5
          let why : Nat :=
            match x.fault with
            | none => 0 | some .error => 1 | some .timeout => 2 | some .malformed => 3 | some .fence => 4
          readWord s (at_ + 0x28) = packWord [(code x.st, 0), (code x.hfrom, 4), (why, 8), (x.fidx, 16)]
            ∧ readWord s (at_ + 0x2C) = packWord [(x.queue.length, 0), (held s r, 16)]
            ∧ (∀ k : Fin 12, x.rcsel.toNat = k.val → readWord s (at_ + 0x34) = x.ctr[k.val])
            ∧ (12 ≤ x.rcsel.toNat → readWord s (at_ + 0x34) = 0)
            ∧ readWord s (at_ + 0x38) = x.serial ∧ readWord s (at_ + 0x3C) = BitVec.ofNat 32 x.rbcnt
            ∧ readWord s (at_ + 0x1C) = BitVec.ofNat 32 x.rpost.toNat
            ∧ readWord s (at_ + 0x20) = BitVec.ofNat 32 x.rdone.toNat
            ∧ readWord s (at_ + 0x24) = BitVec.ofNat 32 x.rfetch.toNat)
        ∧ (∀ i : Fin 32, let e := s.entry i
          readWord s (0x800 + 8 * i.val)
              = packWord
                  [(e.tagVal.toNat, 0), (e.tagMask.toNat, 8), (e.route.val, 16), (e.lanes.toNat, 24),
                    (bit e.discard, 28), (bit e.seqChk, 29), (bit e.valid, 31)]
            ∧ readWord s (0x804 + 8 * i.val)
              = packWord [(e.expected.toNat, 0), (bit e.synced, 16), (e.gen.toNat, 24)]
            ∧ readWord s (0x900 + 4 * i.val) = e.hits)
        ∧ (s.cmd.fifo = [] → readWord s 0x08C = 0)
        ∧ (∀ c rest, s.cmd.fifo = c :: rest →
          readWord s 0x08C
            = packWord [(rest.length + 1, 0), (bit s.cmd.busy, 4), (c.op.toNat, 8), (c.token.toNat, 16)])
        ∧ readWord s 0x050 = packWord [(s.irq.modCount.toNat, 0), (bit s.irq.modTimer.isSome, 8)]
        ∧ (readWord s 0xB18 = BitVec.ofNat 32 s.store.slb
          ∧ readWord s 0xB1C
            = packWord
                [(bit s.store.idBad, 0), (bit s.store.op.isSome, 1), (s.store.last.toNat, 4), (s.store.applied, 8),
                  (s.store.skipped, 16)])
        ∧ (∀ (n : Fin 4) (k : Fin 8),
          readWord s (0xC00 + 32 * n.val + 4 * k.val) = if s.cmd.snapPage then 0 else s.cmd.snapLanes[n.val][k.val])
        ∧ (∀ (r : Fin 16) (k : Fin 12), (s.cmd.snapPage = true ↔ 8 ≤ r.val) →
          readWord s (0xC80 + 48 * (r.val % 8) + 4 * k.val) = s.cmd.snapRoutes[r.val][k.val])
        ∧ (s.ctl.loading = false → s.ctl.resetBusy = false →
          (∀ (n : Fin 4) (data : Word),
            Acts (.registerWrite (BitVec.ofNat 12 (0x118 + 64 * n.val)) data) s
              (if 1 ≤ data.toNat % 8 ∧ data.toNat % 8 ≤ 4 then
                s.setLane n { s.lane n with linjc := BitVec.ofNat 3 (data.toNat % 8) }
               else s))
          ∧ ∀ data : Word, data.getLsbD 1 = false →
            let t : State :=
              { s with
                irq := { s.irq with tick := s.irq.tick && !data.getLsbD 3, sync := s.irq.sync && !data.getLsbD 4 } }
            Acts (.registerWrite 0x040 data) s t ∧ Acts (.complClear data) s t)

/-! ### Lane receivers -/

/-- LSYNC, LFMT and LHDR are written while their lane is OFF, and refused with 0x91 in any other state, even for the
value already held (R22, R23).

An LCTL write with ENABLE = 0 changes only the fields of an OFF lane. On an enabled lane an LCTL write that would
change a field leaves every field, with 0x91, and one that would not posts nothing; with ENABLE = 0 either disables
the lane (R22, R23, R26), stated for the events of a lane with no frame in assembly.

An encoding that stands for no value leaves its field as it was, while every other field of the same write takes
effect: EDGE, ORDER, SOURCE, DEFACT; SLEN, TOL, FMODE, FIXLEN; TAGOFF, SEQOFF, LENOFF, LADJ, DEFROUTE; and LSYNC whole
(R19 to R21). Bits that are no field's hold 0 (R5). -/
def Obligations.LaneConfigurationWrites : Prop :=
  (∀ (n : Fin 4) (reg : LaneReg) (data : Word) (s : State), reg ≠ .lctl →
    s.ctl.loading = false → s.ctl.resetBusy = false →
    ((s.lane n).st = .off →
        Acts (.laneConfigWrite n reg data) s
          (s.setLane n ((s.lane n).withReg reg (laneRegValue reg ((s.lane n).reg reg) data))))
      ∧ ((s.lane n).st ≠ .off →
        Acts (.laneConfigWrite n reg data) s
          { s with ev := (post 0x91 (srcIdx n) (BitVec.ofNat 32 (regOffset (.lane n reg))) data s).ev }))
    ∧ (∀ (n : Fin 4) (data : Word) (s : State), s.ctl.loading = false → s.ctl.resetBusy = false →
      let l := s.lane n
      let new := laneRegValue .lctl l.lctl data
      let told : Events :=
        if new = l.lctl then s.ev
        else (post 0x91 (srcIdx n) (BitVec.ofNat 32 (regOffset (.lane n .lctl))) data s).ev
      (l.st = .off → data.getLsbD 0 = false →
          Acts (.laneConfigWrite n .lctl data) s (s.setLane n { l with lctl := new }))
        ∧ (l.st ≠ .off → data.getLsbD 0 = true → Acts (.laneConfigWrite n .lctl data) s { s with ev := told })
        ∧ (l.st ≠ .off → data.getLsbD 0 = false →
          ∃ t, Acts (.laneConfigWrite n .lctl data) s t ∧ (t.lane n).st = .off ∧ (t.lane n).frame = none
            ∧ (∀ reg, (t.lane n).reg reg = l.reg reg) ∧ (∀ m, m ≠ n → t.lane m = s.lane m)
            ∧ t.routes = s.routes ∧ t.buf.mem = s.buf.mem ∧ (l.frame = none → t.ev = told)))
    ∧ (∀ old new : Word,
    let kept (reg : LaneReg) (lo len bad : Nat) : Prop :=
      fieldOf (laneRegValue reg old new) lo len
        = if fieldOf new lo len = bad then fieldOf old lo len else fieldOf new lo len
    kept .lctl 4 2 3 ∧ kept .lctl 8 8 0 ∧ kept .lfmt 5 2 3 ∧ kept .lfmt 8 3 0 ∧ kept .lfmt 12 3 0
      ∧ kept .lhdr 8 2 3 ∧ kept .lhdr 16 2 3
      ∧ (∀ k ∈ [1, 2, 3, 6], (laneRegValue .lctl old new).getLsbD k = new.getLsbD k)
      ∧ (∀ f ∈ [(0, 2), (2, 2), (4, 1), (16, 13)], fieldOf (laneRegValue .lfmt old new) f.1 f.2 = fieldOf new f.1 f.2)
      ∧ (∀ f ∈ [(0, 4), (4, 4), (12, 4), (20, 5), (28, 4)],
          fieldOf (laneRegValue .lhdr old new) f.1 f.2 = fieldOf new f.1 f.2)
      ∧ laneRegValue .lctl old new &&& 0xFFFF0081 = 0 ∧ laneRegValue .lfmt old new &&& 0xE0008880 = 0
      ∧ laneRegValue .lhdr old new &&& 0x0E0C0C00 = 0
      ∧ laneRegValue .lsync old new = new)

/-- Enabling an OFF lane runs the configuration check: a lane that passes makes a cold entry to SEARCH with empty
FIFO, tally and watchdog and the polarity POLMODE gives; one that fails stays OFF with the code in LASTCHK and
0x93 posted (R24, R25).

The check code is that of the first of six conditions that holds: 1 SLEN = 3; 2 the header extent H, the least byte
count that holds every header field present, above 16; in FIXED mode 3 FIXLEN outside 4 to 4096, 4 H above FIXLEN,
5 the FCS not shorter than FIXLEN; in LENGTH mode 6 LENW = 0 (R20, R24). -/
def Obligations.LaneEnableRunsTheCheck : Prop :=
  (∀ (n : Fin 4) (data : Word) (s : State), s.ctl.loading = false → s.ctl.resetBusy = false →
    (s.lane n).st = .off → data.getLsbD 0 = true →
    let l := { s.lane n with lctl := laneRegValue .lctl (s.lane n).lctl data }
    (l.checkCode = 0 →
        Acts (.laneEnable n data) s
          (s.setLane n
            { l with
              lastChk := 0, st := .search, pol := !l.inject && l.polMode == 2, tally := 0, wdog := 0
              fifo := [], feed := none, hist := 0, histLen := 0, cmpDue := false, verifyCnt := 0, missCnt := 0
              dwell := 0, dwellEnd := false, asm := none, frame := none }))
      ∧ (l.checkCode ≠ 0 →
        Acts (.laneEnable n data) s
          { s.setLane n { l with lastChk := BitVec.ofNat 3 l.checkCode } with
            ev :=
              (post 0x93 (srcIdx n) (BitVec.ofNat 32 l.checkCode) (BitVec.ofNat 32 l.hdrExtent) s).ev }))
    ∧ ∀ l : Lane,
      let slen := fieldOf l.lfmt 0 2
      let fcs := 2 * fieldOf l.lfmt 5 2
      let fixlen := fieldOf l.lfmt 16 13
      let seqw := fieldOf l.lhdr 8 2
      let lenw := fieldOf l.lhdr 16 2
      let holds (h : Nat) : Prop :=
        fieldOf l.lhdr 0 4 < h ∧ (seqw ≠ 0 → fieldOf l.lhdr 4 4 + seqw ≤ h) ∧ (lenw ≠ 0 → fieldOf l.lhdr 12 4 + lenw ≤ h)
      (holds l.hdrExtent ∧ ∀ h, holds h → l.hdrExtent ≤ h)
        ∧ l.checkCode
          = if slen = 3 then 1
            else if 16 < l.hdrExtent then 2
            else if l.lfmt.getLsbD 4 = true then (if lenw = 0 then 6 else 0)
            else if fixlen < 4 ∨ 4096 < fixlen then 3
            else if fixlen < l.hdrExtent then 4
            else if fixlen ≤ fcs then 5
            else 0

/-- Disabling a lane abandons its frame: the frame's blocks join the tail of the free list, ABANDONED counts it, and
the lane is OFF with no frame, no marks and an empty inject FIFO. The other lanes, the queues and buffer memory
are not touched (R26, R50).

After 4096 ticks without an LnCLK edge an enabled line-fed lane enters NOCLOCK, its frame abandoned, with 0x23
giving the state it left; the next edge restores it to a cold SEARCH with 0x24 (R27, R28). The ticks counted are
those since the last edge, of either direction, that a command brought; that the edges of LnCLK come as commands is
the model's reading (log entry 13). -/
def Obligations.LaneDisableAndClockLoss : Prop :=
  (∀ (n : Fin 4) (data : Word) (s : State), s.ctl.loading = false → s.ctl.resetBusy = false →
    (s.lane n).st ≠ .off → data.getLsbD 0 = false →
    ∃ t, Acts (.laneDisable n data) s t
      ∧ (t.lane n).st = .off ∧ (t.lane n).frame = none ∧ (t.lane n).asm = none ∧ (t.lane n).fifo = []
      ∧ (t.lane n).feed = none ∧ (t.lane n).marks = Vector.replicate 4 none
      ∧ (∀ reg, (t.lane n).reg reg = (s.lane n).reg reg)
      ∧ (t.lane n).counter .abandoned
          = (s.lane n).counter .abandoned
            + (match (s.lane n).frame with
               | some f => if f.fate = .withdrawn then 0 else 1
               | none => 0)
      ∧ t.buf.free = s.buf.free ++ (s.lane n).blocks ∧ t.buf.mem = s.buf.mem
      ∧ (∀ m, m ≠ n → t.lane m = s.lane m) ∧ t.routes = s.routes ∧ t.table = s.table ∧ t.eng = s.eng
      ∧ t.tb = s.tb ∧ t.cmd = s.cmd ∧ t.store = s.store ∧ t.ctl = s.ctl ∧ t.bus = s.bus)
    ∧ (∀ (n : Fin 4) (s : State), s.ctl.resetBusy = false →
    ((s.lane n).st ≠ .off → (s.lane n).st ≠ .noclock → (s.lane n).inject = false → 4096 ≤ (s.lane n).wdog →
        ∃ t, Acts (.clockLost n) s t ∧ (t.lane n).st = .noclock ∧ (t.lane n).frame = none
          ∧ (t.lane n).histLen = 0 ∧ t.buf.free = s.buf.free ++ (s.lane n).blocks ∧ t.buf.mem = s.buf.mem
          ∧ (∀ m, m ≠ n → t.lane m = s.lane m) ∧ t.routes = s.routes
          ∧ ((s.lane n).frame = none →
              t.ev = (post 0x23 (srcIdx n) (BitVec.ofNat 32 (laneCode (s.lane n).st)) 0 s).ev))
      ∧ ((s.lane n).st = .noclock →
        Acts (.clockRestored n) s
          { s.setLane n
              { s.lane n with
                st := .search, wdog := 0, hist := 0, histLen := 0, cmpDue := false, verifyCnt := 0
                missCnt := 0, dwell := 0, dwellEnd := false, asm := none, frame := none } with
            ev := (post 0x24 (srcIdx n) 0 0 s).ev }))

/-- A LINJ write offers LINJC bytes, lowest first, to an enabled INJECT lane. Those that fit are taken; if some do
not, 0x26 counts the dropped and the taken. On any other lane the write does nothing (R31).

Every LnCLK edge of a receiving line-fed lane restarts its watchdog, and only one in the direction EDGE selects
gives a bit, the level of LnDAT corrected for polarity; OFF, NOCLOCK and RESET_BUSY take none (R27, R29, R30,
R178). An INJECT lane hands over the byte being fed, or the FIFO's head, bit by bit in the bit order (R32).

A bit handed over with the last one's work done enters the history and the tallies, and in SEARCH and VERIFY the
dwell count (R33 to R35, R44). In SEARCH a full history is due for comparison; in the SYNC phase the bit counts;
in a body it joins the byte being assembled, first bit highest or, LSB-first, lowest (R29). A whole byte is
counted, kept if it is a header byte, taken by the FCS, and stored at its place in the chain if its frame is
admitted and STRIP_FCS does not remove it (R46, R80). -/
def Obligations.InjectAndSampledBits : Prop :=
  (∀ (n : Fin 4) (data : Word) (s : State), s.ctl.loading = false → s.ctl.resetBusy = false →
    let l := s.lane n
    let bytes := leBytes l.linjc.toNat data.toNat
    let room := 16 - l.fifo.length
    let u := s.setLane n { l with fifo := l.fifo ++ bytes.take room }
    (l.st ≠ .off → l.inject = true → l.linjc.toNat ≤ room → Acts (.linjWrite n data) s u)
      ∧ (l.st ≠ .off → l.inject = true → room < l.linjc.toNat →
        Acts (.linjWrite n data) s
          { u with
            ev :=
              (post 0x26 (srcIdx n) (BitVec.ofNat 32 (l.linjc.toNat - room)) (BitVec.ofNat 32 room) s).ev })
      ∧ (l.st = .off ∨ l.inject = false → Acts (.linjWrite n data) s s))
    ∧ (∀ (n : Fin 4) (rising level : Bool) (s : State),
      let l := s.lane n
      (l.st ≠ .off → l.st ≠ .noclock → l.inject = false → s.ctl.resetBusy = false → rising = l.lctl.getLsbD 1 →
          Acts (.laneBitSampled n ⟨rising, level⟩) s (s.setLane n { l with wdog := 0 }))
        ∧ (l.st = .off ∨ l.st = .noclock ∨ l.inject = true ∨ s.ctl.resetBusy = true →
          Acts (.laneBitSampled n ⟨rising, level⟩) s s)
        ∧ (l.st = .off ∨ l.st = .noclock ∨ l.inject = false ∨ s.ctl.resetBusy = true
            ∨ l.feed = none ∧ l.fifo = [] → Acts (.injectBitFeed n) s s))
    ∧ ∀ (n : Fin 4) (c : Instr) (m : Lane) (b : Bool) (s : State),
    let l := s.lane n
    let S := l.syncLen
    let order (k : Nat) : Nat := if l.lctl.getLsbD 2 then k else 7 - k
    let hands : Prop :=
      l.inject = false
          ∧ (∃ rising level, rising ≠ l.lctl.getLsbD 1 ∧ c = .laneBitSampled n ⟨rising, level⟩
              ∧ m = { l with wdog := 0 } ∧ b = (level ^^ l.pol))
        ∨ l.inject = true ∧ c = .injectBitFeed n
          ∧ ((∃ x rest, l.feed = none ∧ l.fifo = x :: rest ∧ m = { l with fifo := rest, feed := some (x, 1) }
                ∧ b = x.getLsbD (order 0))
            ∨ ∃ x k, l.feed = some (x, k) ∧ k < 8
                ∧ m = { l with feed := if k = 7 then none else some (x, k + 1) } ∧ b = x.getLsbD (order k))
    let counts := (l.st = .search ∨ l.st = .verify) ∧ l.dwell ≠ 0xFFFFFFFF#32
    let next : Lane :=
      { m with
        hist := ((l.hist <<< 1) ||| (if b then 1 else 0)) &&& maskOf 0 S
        histLen := min S (l.histLen + 1)
        tally := if l.tally = 7 then 0 else l.tally + 1
        rateTally := if l.tally = 7 then l.rateTally + 1 else l.rateTally
        ctr := if l.tally = 7 then l.ctr.set 0 (l.ctr[0] + 1) else l.ctr
        dwell := if counts then l.dwell + 1 else l.dwell
        dwellEnd := decide (counts ∧ (l.dwell + 1).toNat = l.dwellLimit * 4096) }
    hands → s.ctl.resetBusy = false → l.cmpDue = false → l.flipDue = false →
      (l.st = .search → l.asm = none →
        Acts c s (s.setLane n { next with cmpDue := min S (l.histLen + 1) == S }))
      ∧ ∀ a, l.st = .verify ∨ l.st = .locked ∨ l.st = .coast → l.asm = some a →
        (a.phase = .sync → a.nbits < S →
          Acts c s (s.setLane n { next with asm := some { a with nbits := a.nbits + 1 } }))
        ∧ (a.phase = .body → l.headerDue = false → l.frameEndDue = false →
          let cur : Byte :=
            if l.lctl.getLsbD 2 then (a.cur >>> 1) ||| (if b then 0x80 else 0) else (a.cur <<< 1) ||| (if b then 1 else 0)
          let F := l.fcsLen
          let taken : Assembly :=
            { a with
              nbytes := a.nbytes + 1, nbits := 0, cur := 0
              head := if a.nbytes < l.hdrExtent then a.head ++ [cur] else a.head
              fcs := if a.delay.length < F then a.fcs else crcByte F a.fcs ((a.delay ++ [cur]).getD 0 0)
              delay := if a.delay.length < F then a.delay ++ [cur] else (a.delay ++ [cur]).drop 1 }
          (a.nbits ≠ 7 →
            Acts c s (s.setLane n { next with asm := some { a with nbits := a.nbits + 1, cur := cur } }))
          ∧ (a.nbits = 7 → (∀ f k, l.frame = some f → f.fate ≠ .admitted k) →
            Acts c s (s.setLane n { next with asm := some taken }))
          ∧ (∀ f k L, a.nbits = 7 → l.frame = some f → f.fate = .admitted k → a.len = some L → MemOk s →
            let x := s.route k.route
            let at_ := 16 + 8 * bit x.timestamp + 8 * bit f.marked + a.nbytes
            let stored := if x.stripFcs then L - F else L
            ∃ t, Acts c s t ∧ t = { s.setLane n { next with asm := some taken } with buf := { s.buf with mem := t.buf.mem } }
              ∧ (stored ≤ a.nbytes ∨ chainAddr k.chain at_ = none → t.buf.mem = s.buf.mem)
              ∧ ∀ addr, a.nbytes < stored → chainAddr k.chain at_ = some addr →
                t.buf.mem.read addr = cur ∧ ∀ other, other ≠ addr → t.buf.mem.read other = s.buf.mem.read other))

/-! ### Frame synchronizers -/

/-- A comparison tests a full history against the low S bits of LSYNC, newest bit against bit 0, and matches if at
most T bits differ (R36; so in either bit order, log entry 10).

A match in SEARCH begins verification at count 1, or, where V is 1, acquires lock at that bit: LOCKED, a frame
start that takes the reference counter, the polarity state and every pending mark of the lane, and 0x20 with the
polarity and the dwell count. A bit that does not match changes nothing (R37, R39, R45, R140).

When a bit brought the dwell count of a line-fed AUTO lane to D × 4096 and, processed in full, left it in SEARCH or in
VERIFY, the polarity state inverts, the lane makes a cold entry to SEARCH with its dwell count at 0, its VERIFY body
dropped, and 0x22 gives the new state. That it flips too where that very bit made a warm entry to SEARCH, by a
mismatch in VERIFY, is the model's reading (log entry 26). If the bit acquired lock there is no flip (R44). -/
def Obligations.SearchFindsSyncOrFlips : Prop :=
  (∀ l : Lane,
    let S := 16 + 8 * fieldOf l.lfmt 0 2
    let differ := ((List.range S).filter (fun i => l.hist.getLsbD i != l.lsync.getLsbD i)).length
    l.matchesSync = true ↔ l.histLen = S ∧ differ ≤ fieldOf l.lfmt 2 2)
    ∧ (∀ (n : Fin 4) (s : State),
    let l := s.lane n
    let body (m : Lane) : Lane :=
      { m with
        cmpDue := false
        asm :=
          some
            { phase := .body, nbytes := 0, nbits := 0, cur := 0
              len := if l.lengthMode then none else some l.fixLen
              hdrDone := false, fcs := crcStart l.fcsLen, delay := [], head := [] } }
    l.st = .search → l.cmpDue = true →
      (l.matchesSync = true → l.verifyGoal ≠ 1 →
        Acts (.syncFound n) s (s.setLane n (body { l with st := .verify, verifyCnt := 1 })))
      ∧ (l.matchesSync = true → l.verifyGoal = 1 →
        Acts (.syncFound n) s
          { s.setLane n
              (body
                { l with
                  st := .locked, missCnt := 0, marks := Vector.replicate 4 none
                  frame :=
                    some
                      { stamp := s.tb.ref, markMask := l.markMask, markTime := l.markTime, inv := l.pol
                        coast := false, fate := .undecided } }) with
            ev := (post 0x20 (srcIdx n) (BitVec.ofNat 32 (bit l.pol)) l.dwell s).ev })
      ∧ (l.matchesSync = false → Acts (.syncFound n) s (s.setLane n { l with cmpDue := false })))
    ∧ (∀ (n : Fin 4) (s : State),
    let l := s.lane n
    (l.polMode = 0 → l.inject = false → l.dwellEnd = true →
      l.st = .search ∧ l.cmpDue = false ∧ l.asm = none
          ∨ l.st = .verify ∧ l.headerDue = false ∧ l.frameEndDue = false ∧ l.positionDue = false
          ∨ l.st = .verify ∧ l.positionDue = true ∧ l.matchesSync = false →
      Acts (.polarityFlipped n) s
        { s.setLane n
            { l with
              st := .search, cmpDue := false, asm := none, pol := !l.pol, hist := 0, histLen := 0, verifyCnt := 0, missCnt := 0, dwell := 0, dwellEnd := false
              frame := none } with
          ev := (post 0x22 (srcIdx n) (BitVec.ofNat 32 (bit (!l.pol))) 0 s).ev })
      ∧ (l.polMode = 0 → l.inject = false → l.dwellEnd = true → l.st = .search → l.asm = none → l.cmpDue = true →
        l.matchesSync = true → l.verifyGoal = 1 →
        ∃ t, Acts (.polarityFlipped n) s t ∧ Acts (.syncFound n) s t ∧ (t.lane n).st = .locked
          ∧ (t.lane n).pol = l.pol)
      ∧ (l.st ≠ .search → l.st ≠ .verify → Acts (.polarityFlipped n) s s))

/-- At an expected sync position: a LOCKED lane that matches starts its next frame; one that misses coasts while M
allows, its frame flagged COAST, and else loses lock with a warm entry to SEARCH, LOCKLOSS and 0x21; a match in
COAST returns to LOCKED; a miss in VERIFY returns to SEARCH warm (R38, R40, R41). -/
def Obligations.SyncPositionHoldsCoastsOrLoses : Prop :=
  ∀ (n : Fin 4) (s : State),
    let l := s.lane n
    l.positionDue = true →
      (l.st = .locked ∨ l.st = .coast → l.matchesSync = true →
        ∃ t f, Acts (.syncPosition n) s t ∧ (t.lane n).st = .locked ∧ (t.lane n).frame = some f
          ∧ f.coast = false ∧ f.stamp = s.tb.ref ∧ f.fate = .undecided ∧ (∀ m, m ≠ n → t.lane m = s.lane m)
          ∧ t.ev = s.ev ∧ t.buf = s.buf ∧ t.routes = s.routes)
      ∧ (∀ misses, l.st = .locked ∧ misses = 1 ∨ l.st = .coast ∧ misses = l.missCnt + 1 →
        l.matchesSync = false → misses < l.coastLimit →
        ∃ t f, Acts (.syncPosition n) s t ∧ (t.lane n).st = .coast ∧ (t.lane n).missCnt = misses
          ∧ (t.lane n).frame = some f ∧ f.coast = true ∧ f.stamp = s.tb.ref
          ∧ (∀ m, m ≠ n → t.lane m = s.lane m) ∧ t.ev = s.ev ∧ t.buf = s.buf ∧ t.routes = s.routes)
      ∧ (∀ misses, l.st = .locked ∧ misses = 1 ∨ l.st = .coast ∧ misses = l.missCnt + 1 →
        l.matchesSync = false → l.coastLimit ≤ misses →
        Acts (.syncPosition n) s
          { s.setLane n ((l.toSearch false).count .lockLoss) with
            ev := (post 0x21 (srcIdx n) 1 (BitVec.ofNat 32 (laneCode l.st)) s).ev })
      ∧ (l.st = .verify → l.matchesSync = false →
        Acts (.syncPosition n) s (s.setLane n (l.toSearch false)))
      ∧ (l.st = .verify → l.matchesSync = true → l.verifyCnt + 1 < l.verifyGoal →
        ∃ t, Acts (.syncPosition n) s t ∧ (t.lane n).st = .verify
          ∧ (t.lane n).verifyCnt = l.verifyCnt + 1 ∧ (t.lane n).frame = l.frame ∧ t.ev = s.ev)
      ∧ (l.st = .verify → l.matchesSync = true → l.verifyGoal ≤ l.verifyCnt + 1 →
        ∃ t f, Acts (.syncPosition n) s t ∧ (t.lane n).st = .locked ∧ (t.lane n).frame = some f
          ∧ f.stamp = s.tb.ref
          ∧ t.ev = (post 0x20 (srcIdx n) (BitVec.ofNat 32 (bit l.pol)) l.dwell s).ev)

/-- A LENGTH-mode body whose computed length is below 4, the header extent or F + 1, or above 4096, is dropped at
its header extent: warm entry to SEARCH, LENERR, the frame's marks lost, 0x25 with the signed length, and, from
LOCKED or COAST, LOCKLOSS and 0x21 behind it (R43). -/
def Obligations.LengthErrorDropsTheBody : Prop :=
  ∀ (n : Fin 4) (a : Assembly) (s : State),
    let l := s.lane n
    let len : Int := (beNat ((a.head.drop l.lenOff).take l.lenWidth) : Int) + l.lenAdjust
    let left : Word := BitVec.ofNat 32 (laneCode l.st)
    let ev25 : State := post 0x25 (srcIdx n) (BitVec.ofInt 32 len) left s
    l.asm = some a → l.headerDue = true → l.lengthMode = true →
    len < 4 ∨ len < l.hdrExtent ∨ len < l.fcsLen + 1 ∨ 4096 < len →
    ∃ t, Acts (.headerExtent n) s t ∧ (t.lane n).st = .search ∧ (t.lane n).frame = none
      ∧ (t.lane n).asm = none ∧ (t.lane n).hist = l.hist
      ∧ (t.lane n).counter .lenErr = l.counter .lenErr + 1
      ∧ (t.lane n).counter .marksLost
          = l.counter .marksLost + (match l.frame with | some f => if f.marked then 1 else 0 | none => 0)
      ∧ (t.lane n).counter .lockLoss
          = l.counter .lockLoss + (if l.st = .locked ∨ l.st = .coast then 1 else 0)
      ∧ t.ev = (if l.st = .locked ∨ l.st = .coast then (post 0x21 (srcIdx n) 2 left ev25).ev else ev25.ev)
      ∧ (∀ m, m ≠ n → t.lane m = s.lane m) ∧ t.buf = s.buf ∧ t.routes = s.routes ∧ t.table = s.table

/-! ### Classification, admission and finalization -/

/-- At its header extent, L known and good, a frame goes where the first match entry that is valid, lists the lane
and agrees with the tag says, else where the lane's default says. DISCARD there drops it, and its marks; by
default UNMATCHED counts it (R42, R56 to R59).

Its route decides in order: the gate and the state refuse (R74); over quota h + B > Q an ARMED route first evicts
its oldest records, as few as it takes, and what still does not fit is refused for QUOTA, with 0x43 once an
episode (R75, R76); below the class level it is refused for THRESHOLD, which starts SHED with 0x40 and its pulses,
or EXHAUSTED with 0x42 (R77). Else it is admitted, an ARMED route first evicting down to P - 1 records and frames
(R79): B blocks leave the head of the free list, ADMITTED counts it, the header bytes are stored, a HIGH
admission ends EXHAUSTED, FLOW lines are evaluated, and in RUNNING the budget counts it and its last frame stops
the route with 0x53 (R80, R97). A refused frame is counted and its marks are lost (R81). Events are stated where no
release can end SHED (R78).
-/
def Obligations.ClassificationAndAdmission : Prop :=
  ∀ (n : Fin 4) (a : Assembly) (f : FrameCtx) (L : Nat) (s : State),
    let l := s.lane n
    let tag := a.head.getD l.tagOff 0
    let agrees (e : MatchEntry) : Prop :=
      e.valid = true ∧ e.lanes.getLsbD n.val = true ∧ tag &&& e.tagMask = e.tagVal &&& e.tagMask
    let wins (i : Fin 32) : Prop := agrees (s.entry i) ∧ ∀ j, j < i → ¬agrees (s.entry j)
    let hit (i : Fin 32) : Vector MatchEntry 32 := s.table.set i.val { s.entry i with hits := (s.entry i).hits + 1 }
    let lost (m : Fin 4) : Word := if m = n ∧ f.marked = true then 1 else 0
    let dropped : Option FrameCtx := some { f with fate := .dropped }
    l.asm = some a → l.frame = some f → l.headerDue = true →
    (l.lengthMode = false ∧ L = l.fixLen
      ∨ l.lengthMode = true ∧ (L : Int) = (beNat ((a.head.drop l.lenOff).take l.lenWidth) : Int) + l.lenAdjust
        ∧ 4 ≤ L ∧ l.hdrExtent ≤ L ∧ l.fcsLen < L ∧ L ≤ 4096) →
    (∀ (unmatched : Word) (table : Vector MatchEntry 32),
      (∃ i, wins i ∧ (s.entry i).discard = true ∧ table = hit i ∧ unmatched = 0)
          ∨ (∀ i, ¬agrees (s.entry i)) ∧ l.defDiscard = true ∧ table = s.table ∧ unmatched = 1 →
      ∃ t, Acts (.headerExtent n) s t ∧ (t.lane n).frame = dropped ∧ t.table = table
        ∧ (t.lane n).counter .unmatched = l.counter .unmatched + unmatched
        ∧ (t.lane n).counter .marksLost = l.counter .marksLost + lost n
        ∧ (∀ m, m ≠ n → t.lane m = s.lane m) ∧ t.routes = s.routes ∧ t.buf = s.buf ∧ t.ev = s.ev)
    ∧ ∀ (k : Ticket) (table : Vector MatchEntry 32),
      (∃ i, wins i ∧ (s.entry i).discard = false ∧ table = hit i ∧ k.route = (s.entry i).route
          ∧ k.mIdx = BitVec.ofNat 8 i.val ∧ k.gen = some (s.entry i).gen ∧ k.seqChk = (s.entry i).seqChk)
        ∨ (∀ i, ¬agrees (s.entry i)) ∧ l.defDiscard = false ∧ table = s.table ∧ k.route = l.defRoute
          ∧ k.mIdx = 0xFF ∧ k.gen = none ∧ k.seqChk = false →
      k.seq = BitVec.ofNat 16 (beNat ((a.head.drop l.seqOff).take l.seqWidth)) →
      let r := k.route
      let x := s.route r
      let front := 16 + 8 * bit x.timestamp + 8 * bit f.marked
      let stored := if x.stripFcs then L - l.fcsLen else L
      let B := blockNeed (front + stored)
      let freed (j : Nat) : List Nat := (x.queue.take j).flatMap Record.chain
      let level := if x.high then s.buf.breserve.toNat else s.buf.bshed.toNat
      let quiet := s.ctl.quiescing = false ∧ s.ctl.quiesced = false
      let open_ := quiet ∧ (x.st = .running ∨ x.st = .armed ∧ x.pretrigLimit ≠ 0)
      let toQuota (j : Nat) : Prop :=
        j ≤ x.queue.length ∧ (x.st = .running → j = 0)
          ∧ (x.st = .armed → ∀ i, i < j → x.quota + (freed i).length < held s r + B)
      let fits (j : Nat) : Prop := held s r + B ≤ x.quota + (freed j).length
      let detail : Word := packWord [(B, 0), (n.val, 16)]
      let ends (j : Nat) (t : State) : Prop :=
        (t.route r).queue = x.queue.drop j ∧ (t.route r).counter .evicted = x.counter .evicted + BitVec.ofNat 32 j
          ∧ (∀ q, q ≠ r → t.route q = s.route q) ∧ t.table = table
      let marks (j : Nat) (t : State) (lost : Fin 4 → Word) : Prop :=
        ∀ m, (t.lane m).counter .marksLost
          = (s.lane m).counter .marksLost + lost m
            + BitVec.ofNat 32 ((x.queue.take j).filter (fun y => y.lane == m && y.mark)).length
      let refused (c : RouteCtr) (j : Nat) (t : State) : Prop :=
        Acts (.headerExtent n) s t ∧ (t.lane n).frame = dropped ∧ (t.route r).counter c = x.counter c + 1 ∧ ends j t
          ∧ marks j t lost ∧ t.buf.free = s.buf.free ++ freed j ∧ t.buf.mem = s.buf.mem ∧ (t.route r).st = x.st
      (∀ c : RouteCtr,
        ¬quiet ∧ c = .refQuiesce
          ∨ quiet ∧ ((x.st = .disabled ∨ x.st = .stopping ∨ x.st = .aborting ∨ x.st = .armed ∧ x.pretrigLimit = 0)
                ∧ c = .refClosed
              ∨ x.st = .halted ∧ c = .refHalted) →
        ∃ t, refused c 0 t ∧ t.buf = s.buf ∧ t.ev = s.ev ∧ t.trigs = s.trigs)
      ∧ (∀ j, open_ → toQuota j → (x.st = .armed → j = x.queue.length) → ¬fits j →
        ∃ t, refused .refQuota j t ∧ (t.route r).quotaEp = true
          ∧ (s.buf.shed = false ∨ j = 0 →
            t.ev
              = if x.quotaEp then s.ev
                else (post 0x43 (srcIdx r) (BitVec.ofNat 32 (held s r - (freed j).length)) detail s).ev))
      ∧ (∀ j, open_ → toQuota j → fits j → s.buf.free.length + (freed j).length < level + B →
        ∃ t, refused .refThreshold j t
          ∧ (if x.high then t.buf.exhausted = true else t.buf.shed = true ∧ t.buf.exhausted = s.buf.exhausted)
          ∧ (s.buf.shed = false ∨ j = 0 →
            t.ev
              = if (if x.high then s.buf.exhausted else s.buf.shed) then s.ev
                else
                  (post (if x.high then 0x42 else 0x40) (srcIdx r)
                    (BitVec.ofNat 32 (s.buf.free.length + (freed j).length)) detail s).ev)
          ∧ (j = 0 → x.high = false → s.buf.shed = false →
            t.trigs = mapVec (fun g => if g.out && g.omode == 1 && g.psrc == 2 then g.startPulse else g) s.trigs))
      ∧ (∀ j J, open_ → toQuota j → fits j → level + B ≤ s.buf.free.length + (freed j).length →
        j ≤ J → J ≤ x.queue.length → (x.st = .running → J = 0) →
        (x.st = .armed →
          (∀ i, j ≤ i → i < J → x.pretrigLimit ≤ x.queue.length - i + framesFor s r)
            ∧ (x.queue.length - J + framesFor s r < x.pretrigLimit ∨ J = x.queue.length)) →
        let chain := (s.buf.free ++ freed J).take B
        let counts := x.st = .running ∧ x.budget ≠ 0
        ∃ t, Acts (.headerExtent n) s t
          ∧ (t.lane n).frame
            = some { f with fate := .admitted { k with chain := chain, pretrig := x.st == .armed } }
          ∧ ends J t ∧ marks J t (fun _ => 0) ∧ t.buf.free = (s.buf.free ++ freed J).drop B
          ∧ t.buf.lowFree = min s.buf.lowFree t.buf.free.length
          ∧ t.buf.exhausted = (if x.high then false else s.buf.exhausted)
          ∧ (t.route r).counter .admitted = x.counter .admitted + 1 ∧ (t.route r).quotaEp = false
          ∧ (t.route r).rbcnt = (if counts then x.rbcnt + 1 else x.rbcnt)
          ∧ (t.route r).st = (if counts ∧ x.rbcnt + 1 = x.budget then .stopping else x.st)
          ∧ (s.buf.shed = false ∨ J = 0 →
            t.ev
              = if counts ∧ x.rbcnt + 1 = x.budget then
                  (post 0x53 (srcIdx r) (BitVec.ofNat 32 x.budget) (BitVec.ofNat 32 n.val) s).ev
                else s.ev)
          ∧ (J = 0 → ∀ m, t.trig m
              = if (s.trig m).out && (s.trig m).omode == 2 && (s.trig m).route == r then
                  (s.trig m).evalFlow (held t r)
                else s.trig m)
          ∧ (MemOk s →
            (a.head.length ≤ 16 → ∀ (i : Nat) (h : i < a.head.length), i < stored →
                t.buf.mem.readChain chain (front + i) = a.head[i])
              ∧ ∀ addr, (∀ i, i < a.head.length → i < stored → chainAddr chain (front + i) ≠ some addr) →
                t.buf.mem.read addr = s.buf.mem.read addr))

/-- The frame end. GOOD or FCSBAD counts the frame of a delivered body, and the SYNC phase begins; of a VERIFY body,
and of a frame dropped or withdrawn before, nothing else comes (R38, R47, R81, R101). An admitted frame has its
sequence check; it is discarded if its FCS is bad without KEEP_ERRORED, else if it is retrograde under
DROP_RETROGRADE, its counter counting it, its marks lost and its chain released; and else committed: its record,
with the route's next serial, its flags and its LENGTH, joins the queue, and header, timestamp and mark parts are
written in front of the body, little-endian (R70 to R72, R82, R83, R85). Events are stated where no release can end
SHED.

The sequence check is made under an entry with SEQCHK, valid and of the captured generation, on a lane with a
sequence field, unless the FCS is bad; else it does nothing (R62). On the distance from the expectation, modulo
2^(8w), it finds nothing at 0, a gap below half the range with 0x30, and backwards from there on with 0x31; all
but the last move the expectation behind the frame, and an unsynced entry takes its first expectation without a
verdict (R63, R64).

The FCS register takes each byte from bit 7 down: it shifts left, and is exclusive-ORed with the generator
constant where its top bit differs from the data bit. It starts with ones and covers all bytes of the body but the
last F, which the check value, inverted for CRC32, must equal, big-endian (R48). -/
def Obligations.FrameEndJudgesTheFrame : Prop :=
  (∀ (n : Fin 4) (a : Assembly) (s : State),
    let l := s.lane n
    let v := fcsVerdict l.fcsLen a
    let ended (m : Lane) : Lane := { m with asm := some { a with phase := .sync, nbits := 0 }, frame := none }
    let counted : Lane := ended (l.count (if v = .bad then .fcsBad else .good))
    l.asm = some a → l.frameEndDue = true →
      (l.frame = none → Acts (.frameEnd n) s (s.setLane n (ended l)))
      ∧ ∀ f, l.frame = some f →
        ((∀ k, f.fate ≠ .admitted k) → Acts (.frameEnd n) s (s.setLane n counted))
        ∧ ∀ k, f.fate = .admitted k →
          let x := s.route k.route
          let u := (seqCheck n k v s).1
          let q := (seqCheck n k v s).2
          let front := 16 + 8 * bit x.timestamp + 8 * bit f.marked
          let y : Record :=
            { chain := k.chain, length := front + (if x.stripFcs then a.nbytes - l.fcsLen else a.nbytes)
              flags :=
                BitVec.ofNat 8
                  (bit x.timestamp + 2 * bit f.marked + 4 * bit (v == .bad) + 8 * bit (q == .gap)
                    + 16 * bit (q == .back) + 32 * bit f.coast + 64 * bit k.pretrig + 128 * bit f.inv)
              lane := n, mIdx := k.mIdx, seq := k.seq, serial := x.serial, flen := a.nbytes }
          let drops := v = .bad ∧ x.keepErrored = false
          let retro := q = .back ∧ x.dropRetro = true
          (¬drops → ¬retro →
            ∃ t, Acts (.frameEnd n) s t
              ∧ t = { u.setLane n counted with
                      routes := s.routes.set k.route.val { x with queue := x.queue ++ [y], serial := x.serial + 1 }
                      buf := { s.buf with mem := t.buf.mem } }
              ∧ (MemOk s → k.chain ≠ [] →
                (List.range front).map (t.buf.mem.readChain k.chain)
                  = leBytes 2 y.length ++ [y.flags, BitVec.ofNat 8 n.val, k.mIdx, BitVec.ofNat 8 k.route.val]
                    ++ leBytes 2 k.seq.toNat ++ leBytes 4 x.serial.toNat ++ leBytes 4 a.nbytes
                    ++ (if x.timestamp then leBytes 8 f.stamp.toNat else [])
                    ++ (if f.marked then
                          [BitVec.ofNat 8 f.markMask.toNat, 0, 0, 0] ++ leBytes 4 (f.markTime.toNat % 2 ^ 32)
                        else []))
              ∧ (MemOk s → ∀ addr, (∀ o, o < front → chainAddr k.chain o ≠ some addr) →
                t.buf.mem.read addr = s.buf.mem.read addr))
          ∧ (drops ∨ retro →
            ∃ t, Acts (.frameEnd n) s t ∧ t.table = u.table ∧ (s.buf.shed = false → t.ev = u.ev)
              ∧ t.lane n = (if f.marked then ended ((l.count (if v = .bad then .fcsBad else .good)).count .marksLost) else counted)
              ∧ t.route k.route = x.count (if drops then .fcsDiscarded else .retroDiscarded) 1
              ∧ t.buf.free = s.buf.free ++ k.chain ∧ t.buf.mem = s.buf.mem
              ∧ (∀ q, q ≠ k.route → t.route q = s.route q) ∧ (∀ m, m ≠ n → t.lane m = s.lane m)))
    ∧ (∀ (n : Fin 4) (k : Ticket) (v : FcsVerdict) (i : Fin 32) (s : State),
    let e := s.entry i
    let w := 8 * (s.lane n).seqWidth
    let expected := e.expected.toNat % 2 ^ w
    let d := (k.seq.toNat + 2 ^ w - expected) % 2 ^ w
    let moved : State :=
      s.setEntry i { e with expected := BitVec.ofNat 16 ((k.seq.toNat + 1) % 2 ^ w), synced := true }
    let told (cause : Byte) (u : State) : State :=
      post cause (srcIdx i) (BitVec.ofNat 32 expected)
        (packWord [(k.seq.toNat, 0), (n.val, 16), (k.route.val, 24)]) u
    let checked := k.gen = some e.gen ∧ k.seqChk = true ∧ (s.lane n).seqWidth ≠ 0 ∧ v ≠ .bad ∧ e.valid = true
    (k.gen = none → seqCheck n k v s = (s, .none))
      ∧ (k.mIdx = BitVec.ofNat 8 i.val →
        (¬checked → seqCheck n k v s = (s, .none))
        ∧ (checked → e.synced = false ∨ d = 0 → seqCheck n k v s = (moved, .none))
        ∧ (checked → e.synced = true → 0 < d → d < 2 ^ (w - 1) → seqCheck n k v s = (told 0x30 moved, .gap))
        ∧ (checked → e.synced = true → 2 ^ (w - 1) ≤ d → seqCheck n k v s = (told 0x31 s, .back))))
    ∧ ∀ (F : Nat) (reg : Word) (bytes : List Byte) (a : Assembly),
      let w := if F = 2 then 16 else 32
      let step (reg : Word) (b : Bool) : Word :=
        let shifted := (reg <<< 1) &&& BitVec.ofNat 32 (2 ^ w - 1)
        if reg.getLsbD (w - 1) ≠ b then shifted ^^^ (if F = 2 then 0x1021 else 0x04C11DB7) else shifted
      let byte (reg : Word) (x : Byte) : Word :=
        [7, 6, 5, 4, 3, 2, 1, 0].foldl (fun acc i => step acc (x.getLsbD i)) reg
      let all := bytes.foldl (fun a x => a.takeFcs F x) { a with fcs := crcStart F, delay := [] }
      let n := bytes.length - F
      (∀ x, crcByte F reg x = byte reg x) ∧ crcStart F = BitVec.ofNat 32 (2 ^ w - 1)
        ∧ (F ≤ bytes.length →
          all.fcs = (bytes.take n).foldl byte (crcStart F) ∧ all.delay = bytes.drop n)
        ∧ fcsVerdict F a
          = (if F = 0 then .none
             else if (if F = 2 then a.fcs else ~~~a.fcs).toNat = beNat a.delay then .good else .bad)

/-! ### Timebase and trigger port -/

/-- An active SYNC edge acts in its order: an armed load sets the counter to EPOCH, clears EPOCH_ARM and posts 0x71
with the old value; SYNCCAP takes the counter as it then stands; the SYNC flag is set; 0x70 is posted if SYNCEVT
asks for it; the watchdog restarts and an absent SYNC is restored with 0x73; and the pulses that the SYNC edge
starts start. ACCEPTED_TRANSITION of SYNC does the same (R132, R134, R135, R142).

The filter takes the level it accepts. Its first sample loads it with no transition; a level that is the filtered one,
or whose opposite was the sample before it, is no transition, so two of them are at least 2 ticks apart; nothing is
sampled while LOADING is 1 (R131, R172; samples that no command brings are log entry 14). -/
def Obligations.SyncEdgeActsInOrder : Prop :=
  ∀ (rising : Bool) (s : State),
    let taken : Filter := { s.tb.filter with level := some rising, now := some rising }
    let both (t : State) : Prop := Acts (.syncEdge rising) s t ∧ Acts (.acceptedTransition .sync rising) s t
    let accepts := s.tb.filter.level = some (!rising) ∧ s.tb.filter.last ≠ some (!rising)
    (s.ctl.loading = false → accepts → s.tb.syncFalling = !rising →
      let cap := if s.tb.armed then pairWords s.tb.epochLo s.tb.epochHi else s.tb.ref
      let loaded (u : State) : State := { u with tb := { u.tb with ref := cap } }
      let s1 : State := if s.tb.armed then post 0x71 0xFF (loWord s.tb.ref) (hiWord s.tb.ref) (loaded s) else s
      let s2 : State := if s.tb.syncEvt then post 0x70 0xFF (loWord cap) (hiWord cap) s1 else s1
      let s3 : State := if s.tb.present then s2 else post 0x73 0xFF (loWord cap) (hiWord cap) s2
      both
        { s with
          tb := { s.tb with ref := cap, armed := false, syncCap := cap, present := true, filter := taken, wdog := 0 }
          ev := s3.ev
          irq := { s.irq with sync := true }
          trigs :=
            mapVec (fun g => if g.out && g.omode == 1 && g.psrc == 1 then g.startPulse else g) s.trigs })
    ∧ (s.ctl.loading = false → s.tb.filter.level = none ∨ accepts ∧ s.tb.syncFalling = rising →
      both { s with tb := { s.tb with filter := taken } })
    ∧ (s.ctl.loading = true ∨ s.tb.filter.level = some rising
        ∨ s.tb.filter.level = some (!rising) ∧ s.tb.filter.last = some (!rising) → both s)

/-- When the sync watchdog has counted 2^27 ticks SYNC_PRESENT falls and 0x72 names the last capture; a SYNC that is
absent already is not reported again (R134).

The periodic tick falls when the low 22 bits of the counter are 0, in no tick of a power-on or host reset: it
latches LRATE, sets TICK and starts the tick's pulses (R34, R136). -/
def Obligations.SyncMissingAndPeriodicTick : Prop :=
  (∀ s : State, 2 ^ 27 ≤ s.tb.wdog →
    (s.tb.present = true →
        Acts .syncMissing s
          { s with
            tb := { s.tb with present := false }
            ev := (post 0x72 0xFF (loWord s.tb.syncCap) (hiWord s.tb.syncCap) s).ev })
      ∧ (s.tb.present = false → Acts .syncMissing s s))
    ∧ (∀ s : State,
    (s.tb.ref.extractLsb' 0 22 = 0#22 → s.ctl.resetTick = false →
        Acts .periodicTick s
          { s with
            lanes := mapVec (fun l => { l with lrate := l.rateTally, rateTally := 0 }) s.lanes
            irq := { s.irq with tick := true }
            trigs :=
              mapVec (fun g => if g.out && g.omode == 1 && g.psrc == 0 then g.startPulse else g) s.trigs })
      ∧ (s.tb.ref.extractLsb' 0 22 ≠ 0#22 ∨ s.ctl.resetTick = true → Acts .periodicTick s s))

/-- An active edge on an input line latches TGTIME, counts EDGES and sets FLAG (and the model's
flagNow, log entry 9); EE posts 0x74; each enabled lane of
the MARK mask takes the edge's time in a cell that is empty and keeps an earlier one; and then the line's start and
stop masks are applied to the routes in ascending order. ACCEPTED_TRANSITION does the same (R139, R140). The other
edge, and every edge while RESET_BUSY is 1, only moves the filter, as the first sample does; a level that is no
transition, or comes to an output or while LOADING is 1, does nothing (R131, R172, R178; samples that no command
brings are log entry 14).

The masks move an ARMED route of the start mask to RUNNING with 0x50 and the line, its budget count at 0 and the
pulses of its start started, and a RUNNING route of the stop mask to STOPPING with 0x54, and no other route; while
QUIESCED no route is started (R95, R96, R105, R142). -/
def Obligations.TriggerEdgeActs : Prop :=
  (∀ (n : Fin 4) (rising : Bool) (s : State),
    let g := s.trig n
    let taken : Trig := { g with filter := { g.filter with level := some rising, now := some rising } }
    let both (t : State) : Prop := Acts (.triggerEdge n rising) s t ∧ Acts (.acceptedTransition (.trig n) rising) s t
    let runs := s.ctl.loading = false ∧ g.out = false
    let accepts := g.filter.level = some (!rising) ∧ g.filter.last ≠ some (!rising)
    let active := g.edge = 2 ∨ g.edge = 0 ∧ rising = true ∨ g.edge = 1 ∧ rising = false
    (runs → accepts → active → s.ctl.resetBusy = false →
      let t1 : State :=
        { s with
          trigs := s.trigs.set n.val { taken with time := s.tb.ref, edges := g.edges + 1, flag := true, flagNow := true }
          lanes := Vector.ofFn (fun k : Fin 4 =>
            let l := s.lane k
            if g.marksLane k = true ∧ l.st ≠ .off ∧ l.marks[n.val] = none then
              { l with marks := l.marks.set n.val (some s.tb.ref) }
            else l)
          ev :=
            if g.ee then
              (post 0x74 (srcIdx n) (packWord [(bit (!rising), 0), ((g.edges + 1).toNat, 16)]) (loWord s.tb.ref) s).ev
            else s.ev }
      both (allRoutes.foldl (fun u r => triggerRoute n g u r) t1))
    ∧ (runs → g.filter.level = none ∨ accepts ∧ (¬active ∨ s.ctl.resetBusy = true) → both (s.setTrig n taken))
    ∧ (¬runs ∨ g.filter.level = some rising ∨ g.filter.level = some (!rising) ∧ g.filter.last = some (!rising) →
        both s))
    ∧ (∀ (n : Fin 4) (g : Trig) (r : Fin 16) (s : State),
    let x := s.route r
    let t := triggerRoute n g s r
    (x.st = .armed → g.starts r = true → s.ctl.quiesced = false →
        t
          = { s.setRoute r { x with st := .running, rbcnt := 0 } with
              ev :=
                (post 0x50 (srcIdx r) (BitVec.ofNat 32 (1 + 256 * n.val))
                  (packWord [(x.queue.length, 0), (1, 16)]) s).ev
              trigs :=
                mapVec (fun g => if g.out && g.omode == 1 && g.psrc == 3 && g.route == r then g.startPulse else g)
                  s.trigs })
      ∧ (x.st = .running → g.stops r = true →
        t
          = { s.setRoute r { x with st := .stopping } with
              ev := (post 0x54 (srcIdx r) (BitVec.ofNat 32 n.val) (BitVec.ofNat 32 x.queue.length) s).ev })
      ∧ (¬(x.st = .armed ∧ g.starts r = true ∧ s.ctl.quiesced = false) → ¬(x.st = .running ∧ g.stops r = true) →
        t = s))

/-- A TGCFG write takes effect at once in every state: FLAG is cleared by a 1 in bit 15 unless an edge set it in this
tick, and so by a preset of the word (R6, R171; flagNow is the model's field, log entry 9), EDGE 3 and OMODE 3 keep
their fields and every other field takes its value; a line turned from IN to OUT loses its pending mark on every
lane, one that is not an output in PULSE has no pulse left, and one that becomes a FLOW output has its state set anew
against the held blocks of its route. That the state of a line that is none is held at false is the model's choice
(log entry 29), and so is the form of a filter that starts anew at a change of direction: no level and no sample
known (log entry 14). A TGARG write holds the whole word, in every direction and mode (the model's reading, log entry
16), and sets a FLOW output's state anew if it changed (R137, R138, R143). The last tick of a pulse ends it and drops the pin (R142).

At each evaluation for a route its FLOW outputs become inactive at OFFLVL held blocks or more, else active at
ONLVL or less, and else keep their state (R143). -/
def Obligations.TriggerConfigAndPulseEnd : Prop :=
  (∀ (n : Fin 4) (data : Word) (s : State),
    let g := s.trig n
    (s.ctl.loading = false → s.ctl.resetBusy = false →
      (∃ t, Acts (.tgcfgWrite n .tgcfg data) s t
          ∧ (t.trig n).flag = (g.flag && (!data.getLsbD 15 || g.flagNow)) ∧ (t.trig n).flagNow = g.flagNow
          ∧ fieldOf (t.trig n).cfg 1 2 = (if fieldOf data 1 2 = 3 then fieldOf g.cfg 1 2 else fieldOf data 1 2)
          ∧ fieldOf (t.trig n).cfg 5 2 = (if fieldOf data 5 2 = 3 then fieldOf g.cfg 5 2 else fieldOf data 5 2)
          ∧ (t.trig n).ie = data.getLsbD 3 ∧ (t.trig n).ee = data.getLsbD 4 ∧ (t.trig n).oval = data.getLsbD 7
          ∧ fieldOf (t.trig n).cfg 8 6 = fieldOf data 8 6 ∧ (t.trig n).out = data.getLsbD 0
          ∧ (t.trig n).arg = g.arg ∧ (t.trig n).edges = g.edges ∧ (t.trig n).time = g.time
          ∧ (t.trig n).pulse = (if (t.trig n).out = true ∧ (t.trig n).omode = 1 then g.pulse else 0)
          ∧ (t.trig n).flow
            = (if (t.trig n).out = true ∧ (t.trig n).omode = 2 then
                (if g.out = true ∧ g.omode = 2 then g.flow else decide (held s g.route < g.offLevel))
               else false)
          ∧ (t.trig n).filter = (if g.out = data.getLsbD 0 then g.filter else ⟨none, none, none⟩)
          ∧ (∀ k, t.lane k
              = if g.out = false ∧ data.getLsbD 0 = true then
                  { s.lane k with marks := (s.lane k).marks.set n.val none }
                else s.lane k)
          ∧ (∀ m, m ≠ n → t.trig m = s.trig m) ∧ t.ev = s.ev ∧ t.routes = s.routes ∧ t.buf = s.buf)
      ∧ Acts (.tgcfgWrite n .tgarg data) s
          (s.setTrig n
            { g with
              arg := data
              flow :=
                if g.out = true ∧ g.omode = 2 ∧ g.arg ≠ data then
                  decide (held s (Fin.ofNat 16 (fieldOf data 28 4)) < fieldOf data 14 14)
                else g.flow }))
      ∧ ((applyPair (BitVec.ofNat 32 (0x200 + 16 * n.val), data) s).1.trig n).flag
        = (g.flag && (!data.getLsbD 15 || g.flagNow))
      ∧ (g.out = true → g.omode = 1 → g.pulse = 1 → g.pulseFresh = false →
        Acts (.pulseEnd n) s (s.setTrig n { g with pulse := 0, driven := some g.oval })))
    ∧ ∀ (r : Fin 16) (s : State), ∃ t, flowEval r s = t ∧ t = { s with trigs := t.trigs }
      ∧ ∀ n, let g := s.trig n
        t.trig n
          = if g.out = true ∧ g.omode = 2 ∧ g.route = r then
              { g with
                flow :=
                  if fieldOf g.arg 14 14 ≤ held s r then false
                  else if held s r ≤ fieldOf g.arg 0 14 then true else g.flow }
            else g

/-! ### Routes, windows, buffer manager and rings: host writes -/

/-- A route's configuration word is written only while the route is DISABLED, a window's word only while every route
that uses it is, and a word of the completion ring's base only while every route is; any other write leaves the
word and posts 0x91 with the offset and the data (R90, R114, R125).

A route word holds its defined bits once written, but a quota above 16384 leaves the quota as it was (R88, R89). -/
def Obligations.GuardedConfigurationWords : Prop :=
  (∀ (data : Word) (s : State), s.ctl.loading = false → s.ctl.resetBusy = false →
    let refused (src : Byte) (g : Reg) : State :=
      { s with ev := (post 0x91 src (BitVec.ofNat 32 (regOffset g)) data s).ev }
    (∀ (r : Fin 16) (reg : RouteReg),
        Acts (.routeConfigWrite r reg data) s
          (if (s.route r).st = .disabled then
            s.setRoute r ((s.route r).withReg reg (routeRegValue reg ((s.route r).reg reg) data))
          else refused (srcIdx r) (.route r reg)))
      ∧ (∀ (w : Fin 4) (reg : WindowReg),
        ((∀ r, (s.route r).window = w → (s.route r).st = .disabled) →
            ∃ t, Acts (.windowWrite w reg data) s t ∧ readReg t (.window w reg) = data
              ∧ (∀ v g, v ≠ w ∨ g ≠ reg → readReg t (.window v g) = readReg s (.window v g))
              ∧ t = { s with eng := { s.eng with windows := t.eng.windows } })
          ∧ ((∃ r, (s.route r).window = w ∧ (s.route r).st ≠ .disabled) →
            Acts (.windowWrite w reg data) s (refused 0xFF (.window w reg))))
      ∧ ((∀ r, (s.route r).st = .disabled) →
        Acts (.crbaseWrite .lo data) s { s with eng := { s.eng with crbaseLo := data } }
          ∧ Acts (.crbaseWrite .hi data) s { s with eng := { s.eng with crbaseHi := data } })
      ∧ ((∃ r, (s.route r).st ≠ .disabled) →
        ∀ h, Acts (.crbaseWrite h data) s (refused 0xFF (.crbase h))))
    ∧ (∀ old new : Word,
    routeRegValue .rcfg old new = new &&& 0x000FF131 ∧ routeRegValue .rpretrig old new = new &&& 0xFF
      ∧ routeRegValue .rbudget old new = new &&& 0xFFFFFF ∧ routeRegValue .rlinger old new = new &&& 0xFFFF
      ∧ routeRegValue .rrbaseLo old new = new ∧ routeRegValue .rrbaseHi old new = new
      ∧ (new.toNat % 32768 ≤ 16384 → (routeRegValue .rquota old new).toNat = new.toNat % 32768)
      ∧ (16384 < new.toNat % 32768 → routeRegValue .rquota old new = old))

/-- An RPOST write is accepted when, on distances modulo 65536, it lies at most a ring ahead of RDONE and not behind
RFETCH, and a CRCONS write when it lies between CRCONS and CRPROD; any other count is ignored with 0x60, which
names the ring and the counts held (R110, R126).

A BSHED write sets the shed level and clears SHED, with 0x41, when the free count is then 256 blocks above it; a
BSTAT write restarts LOWFREE at the free count (R78, R86). -/
def Obligations.CountAndLevelWrites : Prop :=
  (∀ (r : Fin 16) (data : Word) (s : State), s.ctl.loading = false → s.ctl.resetBusy = false →
    let x := s.route r
    let p : Count := data.extractLsb' 0 16
    let e := s.eng
    let okPost := (p - x.rdone).toNat ≤ 2 ^ fieldOf x.rcfg 16 4 ∧ (x.rfetch - x.rdone).toNat ≤ (p - x.rdone).toNat
    let okCons := (p - e.crcons).toNat ≤ (e.crprod - e.crcons).toNat
    (okPost → Acts (.rpostWrite r data) s (s.setRoute r { x with rpost := p }))
      ∧ (¬okPost → Acts (.rpostWrite r data) s
          { s with
            ev :=
              (post 0x60 (srcIdx r) (packWord [(p.toNat, 0), (0, 16)])
                (packWord [(x.rdone.toNat, 0), (x.rfetch.toNat, 16)]) s).ev })
      ∧ (e.crEnable = true → okCons → Acts (.crconsWrite data) s { s with eng := { e with crcons := p } })
      ∧ (e.crEnable = true → ¬okCons → Acts (.crconsWrite data) s
          { s with
            ev :=
              (post 0x60 0xFF (packWord [(p.toNat, 0), (1, 16)])
                (packWord [(e.crprod.toNat, 0), (e.crcons.toNat, 16)]) s).ev })
      ∧ (e.crEnable = false → Acts (.crconsWrite data) s s))
    ∧ (∀ (data : Word) (s : State), s.ctl.loading = false → s.ctl.resetBusy = false →
    let v : BitVec 14 := data.extractLsb' 0 14
    let free := s.buf.free.length
    (s.buf.shed = true → v.toNat + 256 ≤ free →
        Acts (.bshedWrite data) s
          { s with
            buf := { s.buf with bshed := v, shed := false }
            ev := (post 0x41 0xFF (BitVec.ofNat 32 free) (BitVec.ofNat 32 v.toNat) s).ev })
      ∧ (s.buf.shed = false ∨ free < v.toNat + 256 →
        Acts (.bshedWrite data) s { s with buf := { s.buf with bshed := v } })
      ∧ Acts (.bstatWrite data) s { s with buf := { s.buf with lowFree := free } })

/-- Enabling the completion ring with a size code of 6 to 14 and a base that is a multiple of 64 restarts its counts
at 0 and its phase at 1; with a bad size or base ENABLE is left 0; disabling keeps the counts. All of it only
while every route is DISABLED, else 0x91 (R125). That a failing enable clears an ENABLE that was 1 before is the
model's reading (log entry 17). -/
def Obligations.CompletionRingConfiguration : Prop :=
  ∀ (data : Word) (s : State), s.ctl.loading = false → s.ctl.resetBusy = false →
    let n := data.extractLsb' 0 4
    let refused : State := { s with ev := (post 0x91 0xFF 0x2C8 data s).ev }
    ((∀ r, (s.route r).st = .disabled) →
        (data.getLsbD 8 = true → 6 ≤ n.toNat → n.toNat ≤ 14 → s.eng.crbaseLo.toNat % 64 = 0 →
            Acts (.completionRingEnable data) s
              { s with
                eng := { s.eng with crsize := n, crEnable := true, crprod := 0, crcons := 0, phase := true } })
          ∧ (data.getLsbD 8 = true → n.toNat < 6 ∨ 14 < n.toNat ∨ s.eng.crbaseLo.toNat % 64 ≠ 0 →
            Acts (.completionRingEnable data) s
              { s with eng := { s.eng with crsize := n, crEnable := false } })
          ∧ (data.getLsbD 8 = false →
            Acts (.completionRingDisable data) s
              { s with eng := { s.eng with crsize := n, crEnable := false } }))
      ∧ ((∃ r, (s.route r).st ≠ .disabled) →
        Acts (.completionRingEnable data) s refused ∧ Acts (.completionRingDisable data) s refused)

/-! ### Events and interrupts -/

/-- An EVPOP write, of any value, removes the head entry of the event queue and changes nothing else; on an empty
queue it does nothing (R150). -/
def Obligations.EvpopRemovesTheHead : Prop :=
  ∀ (data : Word) (s : State), s.ctl.loading = false → s.ctl.resetBusy = false →
    (∀ e rest, s.ev.queue = e :: rest →
        Acts (.evpop data) s { s with ev := { s.ev with queue := rest } })
      ∧ (s.ev.queue = [] → Acts (.evpop data) s s)

/-- Clearing COMPL clears the moderation count and stops the timer, which starts again when the enabled ring still
holds entries the host has not returned and TIMER is not 0; a COMPL set in the same tick stays set (R6, R152,
R157). A CMPMOD write compares the count with the new threshold at once, keeps COUNT for the encoding 0, and
stops the timer for TIMER 0 (R156).

The moderation of a posted entry: the count rises by one up to 255, the first entry since the last clear starts
a stopped timer, and INT_REQ or the threshold sets COMPL (R156). A moderation timer that has counted TIMER
kiloticks sets COMPL and stops (R156).

In MESSAGE mode the rise of the request issues one message, held while MASTER_EN is 0; a held message goes out
at the first delivery engine steps with MASTER_EN = 1 (R17, R155; slot 7000 is the first of them, log entry 36). A
DEVCTL write without RESET sets the three enables; LINE drops a held message, and MESSAGE releases INTL (R11, R17,
R154, R155). -/
def Obligations.ModerationAndMessages : Prop :=
  (∀ (data : Word) (s : State), s.ctl.loading = false → s.ctl.resetBusy = false →
    let q := s.irq
    let count : BitVec 8 := if data.extractLsb' 0 8 = 0#8 then q.cmpCount else data.extractLsb' 0 8
    let timer : BitVec 16 := data.extractLsb' 16 16
    let reached := decide (count.toNat ≤ q.modCount.toNat)
    (data.getLsbD 1 = true →
        Acts (.complClear data) s
          { s with
            irq :=
              { q with
                tick := q.tick && !data.getLsbD 3, sync := q.sync && !data.getLsbD 4, compl := q.complNow
                modCount := 0
                modTimer :=
                  if s.eng.crEnable = true ∧ s.eng.crprod ≠ s.eng.crcons ∧ q.cmpTimer ≠ 0#16 then some 0 else none } })
      ∧ Acts (.cmpmodWrite data) s
          { s with
            irq :=
              { q with
                cmpCount := count, cmpTimer := timer
                compl := q.compl || reached, complNow := q.complNow || reached
                modTimer := if timer = 0#16 then none else q.modTimer } }
      ∧ (data.getLsbD 31 = false →
        Acts (.registerWrite 0x004 data) s
          { s with
            host :=
              { s.host with
                masterEn := data.getLsbD 0, intMaster := data.getLsbD 1, intMode := data.getLsbD 2 }
            irq := { q with held := q.held && data.getLsbD 2, intl := q.intl && !data.getLsbD 2 } }))
    ∧ (∀ (q : Interrupts) (intReq : Bool),
    let k := min (q.modCount.toNat + 1) 255
    let reached := intReq = true ∨ q.cmpCount.toNat ≤ k
    (q.report intReq).modCount.toNat = k
      ∧ ((q.report intReq).compl = true ↔ q.compl = true ∨ reached)
      ∧ ((q.report intReq).complNow = true ↔ q.complNow = true ∨ reached)
      ∧ (q.report intReq).modTimer
          = (if q.modTimer = none ∧ q.cmpTimer ≠ 0#16 ∧ k = 1 then some 0 else q.modTimer)
      ∧ (q.report intReq).tick = q.tick ∧ (q.report intReq).sync = q.sync ∧ (q.report intReq).inten = q.inten)
    ∧ (∀ s : State,
    let rises := s.host.intMode = true ∧ s.host.intMaster = true ∧ intActive s ≠ 0#5 ∧ s.irq.prevReq = false
      ∧ s.irq.asked = false
    (∀ k, s.irq.modTimer = some k → s.irq.cmpTimer ≠ 0#16 → s.irq.cmpTimer.toNat * 1024 ≤ k →
        Acts .moderationTimerExpiry s { s with irq := { s.irq with compl := true, complNow := true, modTimer := none } })
      ∧ (s.irq.modTimer = none ∨ (∃ k, s.irq.modTimer = some k ∧ k < s.irq.cmpTimer.toNat * 1024) →
        Acts .moderationTimerExpiry s s)
      ∧ (rises → s.pos ≠ 7000 →
        (s.host.masterEn = true →
            Acts .interruptMessage s { s with irq := { s.irq with asked := true }, bus := s.bus ++ [.message] })
          ∧ (s.host.masterEn = false →
            Acts .interruptMessage s { s with irq := { s.irq with asked := true, held := true } }))
      ∧ (¬rises ∨ s.pos = 7000 → Acts .interruptMessage s s)
      ∧ (s.irq.held = true → s.host.masterEn = true → s.pos < 7000 → (∀ n, laneQuiet (s.lane n) = true) →
        exec .interruptMessage s
          = .next { s with irq := { s.irq with held := false }, bus := s.bus ++ [.message], pos := 7000 }))

/-! ### The command port -/

/-- A CMDISSUE write captures opcode, target, token and both arguments at the tail of the FIFO, or, with eight
commands held, drops them with 0x92 (R158, R159). -/
def Obligations.CommandIssueCapturesOrOverflows : Prop :=
  ∀ (data : Word) (s : State), s.ctl.loading = false → s.ctl.resetBusy = false →
    let c : Cmd :=
      { op := data.extractLsb' 0 8, target := data.extractLsb' 8 8, token := data.extractLsb' 16 8
        arg0 := s.cmd.arg0, arg1 := s.cmd.arg1 }
    (s.cmd.fifo.length < 8 →
        Acts (.commandIssue data) s { s with cmd := { s.cmd with fifo := s.cmd.fifo ++ [c] } })
      ∧ (8 ≤ s.cmd.fifo.length →
        Acts (.commandIssue data) s
          { s with
            ev :=
              (post 0x92 0xFF (packWord [(c.token.toNat, 0), (c.op.toNat, 8), (c.target.toNat, 16)]) c.arg0 s).ev })

/-- A target outside TABLE 10-1 ends any command with BAD_TARGET, and an opcode that TABLE 10-1 does not list with
UNKNOWN_OP; either way nothing else changes and detail B is 0 (R161, R162).

The row of an opcode runs the head command only where that is its opcode, no command holds the port and no device
reset is busy; else it does nothing (R160, R178; that a row may be sent at another head at all is the model's choice,
log entry 2). -/
def Obligations.GenericChecksEndBadCommands : Prop :=
  (∀ (i : Instr) (c : Cmd) (rest : List Cmd) (s : State),
      commandOp i = some c.op → Ready s c rest → targetOk c.op c.target = false →
      Acts i s
        { s with ev := (post 0x13 c.target c.detail 0 s).ev, cmd := { s.cmd with fifo := rest } })
    ∧ (∀ (c : Cmd) (rest : List Cmd) (s : State), Ready s c rest → (∀ i, commandOp i ≠ some c.op) →
      Acts .commandUnknownOp s
        { s with ev := (post 0x17 c.target c.detail 0 s).ev, cmd := { s.cmd with fifo := rest } })
    ∧ ∀ (i : Instr) (op : Byte) (s : State), commandOp i = some op →
      s.cmd.fifo = [] ∨ (∃ c rest, s.cmd.fifo = c :: rest ∧ c.op ≠ op) ∨ s.cmd.busy = true ∨ s.ctl.resetBusy = true →
      Acts i s s

/-- NOP accepts every target, ends with OK, echoes its argument 0 in detail B and does nothing else; it acts as the
head of the FIFO, so its result follows those of the commands issued before it (R163). -/
def Obligations.NopEchoesItsArgument : Prop :=
  ∀ (c : Cmd) (rest : List Cmd) (s : State), Ready s c rest → c.op = 0x00 →
    Acts .nop s
      { s with ev := (post 0x10 c.target c.detail c.arg0 s).ev, cmd := { s.cmd with fifo := rest } }

/-- MATCH_WRITE replaces the whole entry, counts its generation, sets its sequence state from argument 1 and clears
HITS, with OK and the new GEN; a ROUTE field above 15 is BAD_ARG and changes nothing in the table (R60, R61). -/
def Obligations.MatchWriteReplacesTheEntry : Prop :=
  ∀ (i : Fin 32) (c : Cmd) (rest : List Cmd) (s : State), Ready s c rest → c.op = 0x20 →
    c.target = BitVec.ofNat 8 i.val →
    let g := (s.entry i).gen + 1
    (∀ r : Fin 16, (c.arg0.extractLsb' 16 8).toNat = r.val →
        Acts .matchWrite s
          { s with
            table :=
              s.table.set i.val
                { valid := c.arg0.getLsbD 31, lanes := c.arg0.extractLsb' 24 4
                  tagVal := c.arg0.extractLsb' 0 8, tagMask := c.arg0.extractLsb' 8 8, route := r
                  discard := c.arg0.getLsbD 28, seqChk := c.arg0.getLsbD 29
                  expected := if c.arg1.getLsbD 16 then c.arg1.extractLsb' 0 16 else 0
                  synced := c.arg1.getLsbD 16, gen := g, hits := 0 }
            ev := (post 0x10 c.target c.detail (g.setWidth 32) s).ev
            cmd := { s.cmd with fifo := rest } })
      ∧ (15 < (c.arg0.extractLsb' 16 8).toNat →
        Acts .matchWrite s
          { s with ev := (post 0x14 c.target c.detail 0 s).ev, cmd := { s.cmd with fifo := rest } })

/-- LANE_RESYNC returns a lane in VERIFY, LOCKED or COAST to a cold SEARCH, its frame abandoned; in SEARCH it is
NOCHANGE, in OFF and NOCLOCK BAD_STATE; detail B is the state before (R51). -/
def Obligations.LaneResyncMakesAColdEntry : Prop :=
  ∀ (n : Fin 4) (c : Cmd) (rest : List Cmd) (s : State), Ready s c rest → c.op = 0x28 →
    c.target = BitVec.ofNat 8 n.val →
    let l := s.lane n
    let ends (code : Byte) : State :=
      { s with
        ev := (post code c.target c.detail (BitVec.ofNat 32 (laneCode l.st)) s).ev
        cmd := { s.cmd with fifo := rest } }
    (l.st = .search → Acts .laneResync s (ends 0x11))
      ∧ (l.st = .off ∨ l.st = .noclock → Acts .laneResync s (ends 0x12))
      ∧ (l.st = .verify ∨ l.st = .locked ∨ l.st = .coast →
        ∃ t, Acts .laneResync s t ∧ (t.lane n).st = .search ∧ (t.lane n).frame = none
          ∧ (t.lane n).histLen = 0 ∧ (t.lane n).dwell = 0 ∧ (t.lane n).pol = l.pol
          ∧ (t.lane n).marks = l.marks ∧ (t.lane n).fifo = l.fifo
          ∧ t.buf.free = s.buf.free ++ l.blocks ∧ t.buf.mem = s.buf.mem ∧ t.cmd.fifo = rest
          ∧ (∀ m, m ≠ n → t.lane m = s.lane m) ∧ t.routes = s.routes
          ∧ (l.frame = none → t.ev = (ends 0x10).ev))

/-- COUNTER_SNAPSHOT of a lane copies its eight counters to the snapshot area, clears the live ones if argument 0
bit 0 asks for it, and takes the time, which detail B echoes; of a route likewise its twelve. EPOCH_LOAD_NOW
sets the counter to EPOCH with the old low word in detail B and no 0x71 (R133, R135, R164).

A snapshot of everything (target 0xFF) copies all 32 lane and 192 route counters at one moment (R164). -/
def Obligations.SnapshotAndEpochLoad : Prop :=
  (∀ (c : Cmd) (rest : List Cmd) (s : State), Ready s c rest →
    let clear := c.arg0.getLsbD 0
    let done (snapLanes : Vector (Vector Word 8) 4) (snapRoutes : Vector (Vector Word 12) 16) : CmdPort :=
      { s.cmd with
        fifo := rest, snapTime := s.tb.ref, snapInfo := packWord [(c.target.toNat, 0), (bit clear, 8), (1, 31)]
        snapLanes := snapLanes, snapRoutes := snapRoutes }
    let ev := (post 0x10 c.target c.detail (loWord s.tb.ref) s).ev
    (∀ n : Fin 4, c.op = 0x30 → c.target = BitVec.ofNat 8 n.val →
        Acts .counterSnapshot s
          { s.setLane n { s.lane n with ctr := if clear then Vector.replicate 8 0 else (s.lane n).ctr } with
            cmd := done (s.cmd.snapLanes.set n.val (s.lane n).ctr) s.cmd.snapRoutes, ev := ev })
      ∧ (∀ r : Fin 16, c.op = 0x30 → c.target = BitVec.ofNat 8 (16 + r.val) →
        Acts .counterSnapshot s
          { s.setRoute r { s.route r with ctr := if clear then Vector.replicate 12 0 else (s.route r).ctr } with
            cmd := done s.cmd.snapLanes (s.cmd.snapRoutes.set r.val (s.route r).ctr), ev := ev })
      ∧ (c.op = 0x38 → c.target = 0 →
        ∃ t, Acts .epochLoadNow s t
          ∧ t.tb = { s.tb with ref := pairWords s.tb.epochLo s.tb.epochHi }
          ∧ t.ev = (post 0x10 c.target c.detail (loWord s.tb.ref) { s with tb := t.tb }).ev
          ∧ t = { s with tb := t.tb, ev := t.ev, cmd := { s.cmd with fifo := rest } }))
    ∧ (∀ (c : Cmd) (rest : List Cmd) (s : State), Ready s c rest → c.op = 0x30 → c.target = 0xFF →
    ∃ t, Acts .counterSnapshot s t
      ∧ (∀ n : Fin 4, t.cmd.snapLanes[n.val] = (s.lane n).ctr
          ∧ (t.lane n).ctr = if c.arg0.getLsbD 0 then Vector.replicate 8 0 else (s.lane n).ctr)
      ∧ (∀ r : Fin 16, t.cmd.snapRoutes[r.val] = (s.route r).ctr
          ∧ (t.route r).ctr = if c.arg0.getLsbD 0 then Vector.replicate 12 0 else (s.route r).ctr)
      ∧ t.cmd.snapTime = s.tb.ref ∧ t.buf = s.buf ∧ t.eng = s.eng)

/-- QUIESCE sets QUIESCING unless the device is quiescing or quiesced already, and UNQUIESCE clears both; detail B
shows the two bits before the step. QUIESCED follows at the first engine step that finds no frame in assembly,
every route settled, no read outstanding and an empty backlog: 0xA0 names the HALTED routes and the ARMED ones
that hold records (R179, R181, R183). -/
def Obligations.QuiesceAndUnquiesce : Prop :=
  ∀ s : State,
    (∀ (c : Cmd) (rest : List Cmd), Ready s c rest → c.target = 0 →
        let b := packWord [(bit s.ctl.quiescing, 0), (bit s.ctl.quiesced, 1)]
        let ends (code : Byte) (ctl : Control) : State :=
          { s with ev := (post code c.target c.detail b s).ev, cmd := { s.cmd with fifo := rest }, ctl := ctl }
        (c.op = 0x50 →
            Acts .quiesce s
              (if s.ctl.quiescing || s.ctl.quiesced then ends 0x11 s.ctl
               else ends 0x10 { s.ctl with quiescing := true }))
          ∧ (c.op = 0x51 →
            Acts .unquiesce s
              (if s.ctl.quiescing || s.ctl.quiesced then ends 0x10 { s.ctl with quiescing := false, quiesced := false }
               else ends 0x11 s.ctl)))
      ∧ (s.ctl.resetBusy = false → s.ctl.quiescing = true → s.eng.backlog = [] →
        (∀ r, framesFor s r = 0 ∧ settled s r = true ∧ (s.route r).read = none) →
        Acts .quiesced s
          { s with
            ctl := { s.ctl with quiescing := false, quiesced := true }
            ev :=
              (post 0xA0 0xFF (routeMask (fun r => (s.route r).st == .halted))
                (routeMask (fun r => (s.route r).st == .armed && !(s.route r).queue.isEmpty)) s).ev })
      ∧ ((∃ r, framesFor s r ≠ 0 ∨ settled s r = false ∨ (s.route r).read ≠ none) ∨ s.eng.backlog ≠ [] →
        Acts .quiesced s s)

/-! ### Route commands -/

/-- ROUTE_ARM and ROUTE_START on a DISABLED route run the validity check: BAD_STATE without an enabled completion
ring, BAD_ARG for a ring size code outside 3 to 12 or a misaligned ring base. A route that passes is ARMED, or
RUNNING with its budget count at 0; detail B shows the states before and after (R93, R94, R95). ROUTE_START on an
ARMED route takes it to RUNNING without that check, and 0x50 tells the state left (R95).

A start posts 0x50 and then the command's result: that order is read from the rules, not stated by them (log entry
19).

In the other states ROUTE_ARM and ROUTE_START answer NOCHANGE or BAD_STATE and change nothing, and while
QUIESCED ROUTE_START is BAD_STATE in every state (R94, R95, R105). -/
def Obligations.ArmAndStart : Prop :=
  (∀ (r : Fin 16) (c : Cmd) (rest : List Cmd) (s : State), Ready s c rest →
    c.target = BitVec.ofNat 8 r.val →
    let x := s.route r
    let n := fieldOf x.rcfg 16 4
    let bad := n < 3 ∨ 12 < n ∨ x.rrbaseLo.toNat % 64 ≠ 0
    let fails (code : Byte) : State :=
      { s with ev := (post code c.target c.detail 0 s).ev, cmd := { s.cmd with fifo := rest } }
    let started : State :=
      { s.setRoute r { x with st := .running, rbcnt := 0 } with
        ev :=
          (post 0x10 c.target c.detail (packWord [(routeCode x.st, 0), (2, 8)])
            (post 0x50 (srcIdx r) 0xFF00 (packWord [(x.queue.length, 0), (routeCode x.st, 16)]) s)).ev
        trigs :=
          mapVec (fun g => if g.out && g.omode == 1 && g.psrc == 3 && g.route == r then g.startPulse else g) s.trigs
        cmd := { s.cmd with fifo := rest } }
    (c.op = 0x10 → x.st = .disabled →
        (s.eng.crEnable = false → Acts .routeArm s (fails 0x12))
          ∧ (s.eng.crEnable = true → bad → Acts .routeArm s (fails 0x14))
          ∧ (s.eng.crEnable = true → ¬bad →
            Acts .routeArm s
              { s.setRoute r { x with st := .armed } with
                ev := (post 0x10 c.target c.detail 0x100 s).ev, cmd := { s.cmd with fifo := rest } }))
      ∧ (c.op = 0x11 → s.ctl.quiesced = false → x.st = .disabled →
        (s.eng.crEnable = false → Acts .routeStart s (fails 0x12))
          ∧ (s.eng.crEnable = true → bad → Acts .routeStart s (fails 0x14))
          ∧ (s.eng.crEnable = true → ¬bad → Acts .routeStart s started))
      ∧ (c.op = 0x11 → s.ctl.quiesced = false → x.st = .armed → Acts .routeStart s started))
    ∧ (∀ (r : Fin 16) (c : Cmd) (rest : List Cmd) (s : State), Ready s c rest →
    c.target = BitVec.ofNat 8 r.val →
    let st := (s.route r).st
    let ends (code : Byte) : State :=
      { s with
        ev := (post code c.target c.detail (packWord [(routeCode st, 0), (routeCode st, 8)]) s).ev
        cmd := { s.cmd with fifo := rest } }
    (c.op = 0x10 → st = .armed → Acts .routeArm s (ends 0x11))
      ∧ (c.op = 0x10 → st ≠ .disabled → st ≠ .armed → Acts .routeArm s (ends 0x12))
      ∧ (c.op = 0x11 → s.ctl.quiesced = true → Acts .routeStart s (ends 0x12))
      ∧ (c.op = 0x11 → s.ctl.quiesced = false → st = .running → Acts .routeStart s (ends 0x11))
      ∧ (c.op = 0x11 → st = .stopping ∨ st = .aborting ∨ st = .halted → Acts .routeStart s (ends 0x12)))

/-- ROUTE_STOP, ROUTE_RESUME and ROUTE_FLUSH by the route's state: a RUNNING or unquiesced ARMED route enters
STOPPING; a HALTED route returns to the state it left with an empty cache and RFETCH at RDONE, and to RUNNING
with its budget count at 0; an open buffer is closed with reason FLUSH (R98, R103, R104, R105). -/
def Obligations.StopResumeAndFlush : Prop :=
  ∀ (r : Fin 16) (c : Cmd) (rest : List Cmd) (s : State), Ready s c rest →
    c.target = BitVec.ofNat 8 r.val →
    let x := s.route r
    let ends (code : Byte) (y : Route) : State :=
      { s.setRoute r y with
        ev := (post code c.target c.detail (packWord [(routeCode x.st, 0), (routeCode y.st, 8)]) s).ev
        cmd := { s.cmd with fifo := rest } }
    (c.op = 0x12 →
        (x.st = .running ∨ x.st = .armed ∧ s.ctl.quiesced = false →
            Acts .routeStop s (ends 0x10 { x with st := .stopping }))
          ∧ (x.st = .stopping → Acts .routeStop s (ends 0x11 x))
          ∧ (x.st = .disabled ∨ x.st = .aborting ∨ x.st = .halted ∨ x.st = .armed ∧ s.ctl.quiesced = true →
            Acts .routeStop s (ends 0x12 x)))
      ∧ (c.op = 0x14 →
        (x.st = .halted → s.ctl.quiesced = false →
            Acts .routeResume s
              (ends 0x10
                { x with
                  st := x.hfrom, cache := [], rfetch := x.rdone
                  rbcnt := if x.hfrom = .running then 0 else x.rbcnt }))
          ∧ (x.st ≠ .halted ∨ s.ctl.quiesced = true → Acts .routeResume s (ends 0x12 x)))
      ∧ (c.op = 0x15 →
        (∀ b, x.st = .running ∨ x.st = .stopping → x.buf = some b → b.closed = none →
            Acts .routeFlush s
              (ends 0x10 { x with buf := some { b with closed := some .flush, linger := none } }))
          ∧ (x.st = .running ∨ x.st = .stopping → (∀ b, x.buf = some b → b.closed ≠ none) →
            Acts .routeFlush s (ends 0x11 x))
          ∧ (x.st ≠ .running → x.st ≠ .stopping → Acts .routeFlush s (ends 0x12 x)))

/-- ROUTE_ABORT takes any route but a DISABLED one with nothing posted, or an ABORTING one, to ABORTING: every frame
in assembly for it is withdrawn with ABANDONED counted on its lane, every queued record but one in progress is
discarded, and the blocks they held join the tail of the free list (R100, R101): lanes ascending, then records
oldest first, which is the model's choice (log entry 33).

That an open buffer is closed with reason ABORT in this command step, ahead of the delivery engine steps that
complete the abort, is read from the rules (log entry 25; R101, R123). -/
def Obligations.AbortWithdrawsAndDiscards : Prop :=
  ∀ (r : Fin 16) (c : Cmd) (rest : List Cmd) (s : State), Ready s c rest → c.op = 0x13 →
    c.target = BitVec.ofNat 8 r.val →
    let x := s.route r
    let ends (code : Byte) : State :=
      { s with
        ev := (post code c.target c.detail (packWord [(routeCode x.st, 0), (routeCode x.st, 8)]) s).ev
        cmd := { s.cmd with fifo := rest } }
    (x.st = .aborting → Acts .routeAbort s (ends 0x12))
      ∧ (x.st = .disabled → x.rpost = x.rdone → Acts .routeAbort s (ends 0x11))
      ∧ (x.st = .disabled → x.rpost ≠ x.rdone → s.eng.crEnable = false →
        Acts .routeAbort s (ends 0x12))
      ∧ ∀ keep : Nat,
        (x.st = .armed ∨ x.st = .running ∨ x.st = .stopping ∨ x.st = .halted
            ∨ x.st = .disabled ∧ x.rpost ≠ x.rdone ∧ s.eng.crEnable = true) →
        (∃ p, s.eng.inProg = some p ∧ p.route = r) ∧ keep = 1
            ∨ (∀ p, s.eng.inProg = some p → p.route ≠ r) ∧ keep = 0 →
        ∃ t, Acts .routeAbort s t ∧ (t.route r).st = .aborting ∧ (t.route r).queue = x.queue.take keep
          ∧ framesFor t r = 0 ∧ held t r = ((x.queue.take keep).flatMap Record.chain).length
          ∧ (∀ n, (s.lane n).assembling r = true →
              (t.lane n).frame = (s.lane n).frame.map (fun f => { f with fate := .withdrawn })
                ∧ (t.lane n).counter .abandoned = (s.lane n).counter .abandoned + 1)
          ∧ (∀ n, (s.lane n).assembling r = false → (t.lane n).frame = (s.lane n).frame)
          ∧ t.buf.free
              = s.buf.free ++ allLanes.flatMap (fun n => (s.lane n).chainFor r)
                ++ (x.queue.drop keep).flatMap Record.chain
          ∧ (∀ b, x.buf = some b → b.closed = none → lingerDue s r = false →
              (t.route r).buf = some { b with closed := some .abort, linger := none })
          ∧ (∀ b, x.buf = some b → b.closed ≠ none → (t.route r).buf = some b)
          ∧ (x.buf = none → (t.route r).buf = none) ∧ t.eng = s.eng
          ∧ (∀ c, (t.route r).counter c = x.counter c) ∧ (t.route r).rdone = x.rdone
          ∧ (t.route r).rfetch = x.rfetch ∧ (∀ q, q ≠ r → t.route q = s.route q)
          ∧ t.buf.mem = s.buf.mem ∧ t.cmd.fifo = rest ∧ t.bus = s.bus

/-! ### The delivery engine -/

/-- A descriptor read asks for as many descriptors as the cache, RPOST and the end of the ring allow, at RFETCH's
slot, whose address wraps modulo 2^64 (log entry 35), and RFETCH advances by that number; without a reason to
fetch, while a read is outstanding, with two entries cached, with MASTER_EN at 0, for a settled RUNNING route while
quiescing, or while QUIESCED, nothing is issued (R14, R109, R112, R180, R182). -/
def Obligations.FetchAsksForWhatFits : Prop :=
  ∀ (r : Fin 16) (s : State),
    let x := s.route r
    let slots := 2 ^ fieldOf x.rcfg 16 4
    let n := min (4 - x.cache.length) (min (x.rpost - x.rfetch).toNat (slots - x.rfetch.toNat % slots))
    (s.ctl.resetBusy = false → (x.st = .running ∨ x.st = .stopping) → x.read = none → x.cache.length < 2 →
        x.rpost ≠ x.rfetch → s.host.masterEn = true → s.ctl.quiesced = false →
        (s.ctl.quiescing = false ∨ x.st = .stopping ∨ settled s r = false) →
        Acts (.descriptorFetch r) s
          { s.setRoute r
              { x with
                rfetch := x.rfetch + BitVec.ofNat 16 n
                read := some { start := x.rfetch, n := n, age := 0, stale := false } } with
            bus :=
              s.bus
                ++ [.read r
                    (pairWords x.rrbaseLo x.rrbaseHi + BitVec.ofNat 64 (16 * (x.rfetch.toNat % slots))) n] })
      ∧ (x.st ≠ .running ∧ x.st ≠ .stopping ∨ x.read ≠ none ∨ 2 ≤ x.cache.length ∨ x.rpost = x.rfetch
          ∨ s.host.masterEn = false ∨ s.ctl.quiesced = true
          ∨ s.ctl.quiescing = true ∧ x.st = .running ∧ settled s r = true →
        Acts (.descriptorFetch r) s s)

/-- A read that ends is outstanding no longer. ERROR and TIMEOUT bring n faulty entries without data, in ring order;
DATA, once all 16 n bytes have come, brings one checked entry for each descriptor; a stale read brings none; fewer
bytes end no read (R15, R102, R113). A descriptor's sixteen bytes are address, length and control word,
little-endian (R2, R109).

While a device reset is busy the end of an old read is only noted: its route's cache does not change, and a
timeout is counted for 0xA1. A response for a read that is no longer outstanding changes nothing (R16, R178).

The check of a descriptor (R113, R115): MALFORMED for a misaligned address, a length outside 256 to 65536 or not
a multiple of 8, or a buffer beyond the address space; else FENCE when an end of the buffer carries a masked
address bit; else good, at the relocated address. A faulty entry holds the data as read (R111). -/
def Obligations.DescriptorReadOutcomes : Prop :=
  (∀ (r : Fin 16) (q : ReadReq) (s : State),
    let x := s.route r
    let ends (es : List CacheEntry) : State :=
      s.setRoute r { x with read := none, cache := if q.stale then x.cache else x.cache ++ es }
    let faulty (f : DescFault) : List CacheEntry :=
      (List.range q.n).map (fun k =>
        { idx := (q.start + BitVec.ofNat 16 k).toNat % 2 ^ fieldOf x.rcfg 16 4, fault := some f, data := none })
    s.ctl.resetBusy = false → x.read = some q →
      (q.age ≤ 31250 → Acts (.descriptorReadDone r .error) s (ends (faulty .error)))
      ∧ (31250 ≤ q.age → Acts (.descriptorReadTimeout r) s (ends (faulty .timeout)))
      ∧ (∀ bs : List Byte, bs.length < 16 * q.n → Acts (.descriptorReadDone r (.data bs)) s s)
      ∧ (∀ bs : List Byte, q.age ≤ 31250 → 16 * q.n ≤ bs.length →
        ∃ es, Acts (.descriptorReadDone r (.data bs)) s (ends es) ∧ es.length = q.n
          ∧ ∀ (k : Nat) (h : k < es.length),
              es[k]
                = descEntry (descOf ((bs.drop (16 * k)).take 16)) (s.eng.windows[x.window.val])
                    ((q.start + BitVec.ofNat 16 k).toNat % 2 ^ fieldOf x.rcfg 16 4)))
    ∧ (∀ d : RawDesc,
      descOf (leBytes 8 d.address.toNat ++ leBytes 4 d.length.toNat ++ leBytes 4 d.control.toNat) = d)
    ∧ (∀ (r : Fin 16) (answer : ReadAnswer) (n age : Nat) (rest : List OldRead) (s : State),
    Acts (.lateResponse r answer) s s
      ∧ (s.ctl.resetBusy = true → s.ctl.oldReads = { route := r, n := n, age := age } :: rest →
        (age ≤ 31250 → answer = .error ∨ (∃ bs, answer = .data bs ∧ 16 * n ≤ bs.length) →
            Acts (.descriptorReadDone r answer) s { s with ctl := { s.ctl with oldReads := rest } })
          ∧ ((∃ bs, answer = .data bs ∧ bs.length < 16 * n) → (∀ e ∈ rest, e.route ≠ r) →
            Acts (.descriptorReadDone r answer) s s)
          ∧ (31250 ≤ age →
            Acts (.descriptorReadTimeout r) s
              { s with
                ctl := { s.ctl with oldReads := rest, readTimeouts := s.ctl.readTimeouts + 1 } })))
    ∧ (∀ (d : RawDesc) (w : Window) (idx : Nat),
    let a := d.address.toNat
    let len := d.length.toNat
    let bad := a % 8 ≠ 0 ∨ len < 256 ∨ 65536 < len ∨ len % 8 ≠ 0 ∨ 2 ^ 64 < a + len
    let m := pairWords w.maskLo w.maskHi
    let e : DWord := BitVec.ofNat 64 (a + len - 1)
    let fenced := d.address &&& m ≠ 0 ∨ e &&& m ≠ 0
    let holds (f : Option DescFault) (addr : DWord) : Prop :=
      descEntry d w idx
        = { idx := idx, fault := f
            data :=
              some
                { tag := d.control.extractLsb' 0 16, intReq := d.control.getLsbD 16, length := len
                  address := addr } }
    (bad → holds (some .malformed) d.address)
      ∧ (¬bad → fenced → holds (some .fence) d.address)
      ∧ (¬bad → ¬fenced → holds none ((d.address &&& ~~~m) ||| pairWords w.setLo w.setHi)))

/-- A RUNNING or STOPPING route with a head record, no buffer and no backlog entry opens the good descriptor at its
cache head, empty; a faulty one puts it in HALTED with 0x52, its read made stale and the descriptor still posted
(R102, R116). -/
def Obligations.BufferOpensOrRouteHalts : Prop :=
  ∀ (r : Fin 16) (e : CacheEntry) (rest : List CacheEntry) (s : State),
    let x := s.route r
    s.ctl.resetBusy = false → x.st = .running ∨ x.st = .stopping → x.queue ≠ [] → x.buf = none →
    (∀ p, s.eng.inProg = some p → p.route ≠ r) → (∀ c ∈ s.eng.backlog, c.route ≠ r) → x.cache = e :: rest →
      (∀ d, e.fault = none → e.data = some d →
        Acts (.bufferOpen r) s
          (s.setRoute r
            { x with
              cache := rest
              buf :=
                some
                  { idx := e.idx, tag := d.tag, intReq := d.intReq, length := d.length, address := d.address
                    used := 0, count := 0, pretrig := false, fcsBad := false, seq := false, mark := false
                    linger := none, closed := none } }))
      ∧ (∀ f, e.fault = some f →
        Acts (.bufferOpen r) s
          { s.setRoute r
              { x with
                st := .halted, hfrom := x.st, fault := some f, fidx := e.idx
                read := x.read.map (fun q => { q with stale := true }) } with
            ev :=
              (post 0x52 (srcIdx r) (BitVec.ofNat 32 (faultCode (some f)))
                (packWord [(e.idx, 0), (routeCode x.st, 16)]) s).ev })

/-- An arbitration turn goes to the first route with work after the last one served. Its head record is discarded as
oversize, with 0x63, when it meets an empty buffer shorter than itself; closes a PACKED buffer it does not fit
with reason FULL; and else becomes the record in progress at the used count. No turn is taken while MASTER_EN is
0 or a record is in progress (R117, R120).

The arbitration serves every route in turn: the route served is the nearest one with work counting up from the
one after the last served, wrapping from 15 to 0 (R117). -/
def Obligations.ArbitrationTurns : Prop :=
  (∀ (r : Fin 16) (x : Record) (rest : List Record) (b : Buffer) (s : State), s.ctl.resetBusy = false →
    let y := s.route r
    let eng : Engine := { s.eng with lastServed := r }
    (s.host.masterEn = false ∨ s.eng.inProg ≠ none → Acts .recordPlace s s)
      ∧ (s.host.masterEn = true → s.eng.inProg = none → nextServed s = some r → y.queue = x :: rest →
        y.buf = some b →
        (b.used = 0 → b.length < x.length →
            ∃ t, Acts .recordPlace s t ∧ t.eng = eng ∧ (t.route r).queue = rest
              ∧ (t.route r).buf = some b
              ∧ (t.route r).counter .oversizeDiscarded = y.counter .oversizeDiscarded + 1
              ∧ t.buf.free = s.buf.free ++ x.chain ∧ (∀ q, q ≠ r → t.route q = s.route q)
              ∧ (t.lane x.lane).counter .marksLost
                  = (s.lane x.lane).counter .marksLost + (if x.mark then 1 else 0)
              ∧ (s.buf.shed = false →
                  t.ev = (post 0x63 (srcIdx r) (packWord [(x.length, 0), (b.idx, 16)]) x.serial s).ev)
              ∧ t.bus = s.bus)
          ∧ (¬(b.used = 0 ∧ b.length < x.length) → y.single = false → b.length < b.used + x.length →
            b.closed = none →
            Acts .recordPlace s
              { s.setRoute r { y with buf := some { b with closed := some .full, linger := none } } with eng := eng })
          ∧ (¬(b.used = 0 ∧ b.length < x.length) → ¬(y.single = false ∧ b.length < b.used + x.length) →
            Acts .recordPlace s
              { s.setRoute r { y with buf := some { b with linger := none } } with
                eng := { eng with inProg := some { route := r, off := b.used, done := 0 } } })))
    ∧ (∀ (r : Fin 16) (s : State),
    nextServed s = some r ↔
      hasWork s r = true ∧ ∀ q : Fin 16, hasWork s q = true → (r - s.eng.lastServed - 1).val ≤ (q - s.eng.lastServed - 1).val)

/-- A payload write carries the record's stored bytes, zero-padded to a multiple of 8, up to the next multiple of
256 of host address; an address beyond 2^64 - 1 wraps (log entry 35). The write that ends the payload releases the
record's blocks, counts LENGTH in BYTES, moves the used count over record and padding, counts the record and ends
the record in progress; an open buffer closes SINGLE or, with fewer than 24 bytes left, FULL, and one that was
closed while the record was in progress keeps its reason (R118, R119, R121, R123).

A row of k + 1 writes is one write and then k more, each where a record is in progress; with no record in progress,
or with MASTER_EN at 0, nothing is written (R14, R121). -/
def Obligations.PayloadWriteMovesTheRecord : Prop :=
  (∀ (p : InProgress) (x : Record) (rest : List Record) (b : Buffer) (s : State), s.ctl.resetBusy = false →
    s.host.masterEn = true → s.eng.inProg = some p → (s.route p.route).queue = x :: rest →
    (s.route p.route).buf = some b →
    let y := s.route p.route
    let total := (x.length + 7) / 8 * 8
    let addr := b.address + BitVec.ofNat 64 (p.off + p.done)
    let n := min (256 - addr.toNat % 256) (total - p.done)
    let used := (b.used + x.length + 7) / 8 * 8
    let closed : Option Reason :=
      if b.closed ≠ none then b.closed
      else if y.single then some .single else if b.length < used + 24 then some .full else none
    let t := continueRecord 1 s
    ∃ bytes, Acts (.payloadWrite 1) s t ∧ t.bus = s.bus ++ [.payload addr bytes] ∧ bytes.length = n
      ∧ (∀ (k : Nat) (h : k < bytes.length),
          bytes[k] = if p.done + k < x.length then s.buf.mem.readChain x.chain (p.done + k) else 0)
      ∧ t.buf.mem = s.buf.mem ∧ (∀ q, q ≠ p.route → t.route q = s.route q)
      ∧ (p.done + n < total →
          t.eng = { s.eng with inProg := some { p with done := p.done + n } } ∧ t.routes = s.routes ∧ t.buf = s.buf
            ∧ t.ev = s.ev)
      ∧ (total ≤ p.done + n →
          t.eng = { s.eng with inProg := none } ∧ (t.route p.route).queue = rest
            ∧ t.buf.free = s.buf.free ++ x.chain
            ∧ (t.route p.route).counter .bytes = y.counter .bytes + BitVec.ofNat 32 x.length
            ∧ (t.route p.route).buf
              = some
                  { b with
                    used := used, count := b.count + 1, pretrig := b.pretrig || x.pretrig
                    fcsBad := b.fcsBad || x.fcsBad, seq := b.seq || x.seqFlag, mark := b.mark || x.mark
                    linger := if closed = none ∧ y.lingerLimit ≠ 0 then some 0 else none
                    closed := closed }))
    ∧ ∀ (k : Nat) (s : State), s.ctl.resetBusy = false →
      Acts (.payloadWrite k) s (continueRecord k s) ∧ continueRecord 0 s = s
        ∧ continueRecord (k + 1) s = continueRecord k (continueRecord 1 s)
        ∧ (s.host.masterEn = false ∨ s.eng.inProg = none → continueRecord k s = s)

/-- LINGER closes a PACKED buffer whose timer has counted RLINGER kiloticks; STOP one of a STOPPING route, and
QUIESCE one of a RUNNING route while the device is quiet, that have nothing left to place. LINGER is tried first, so
the rows of STOP and QUIESCE close a buffer whose linger is due by LINGER. A buffer is closed once: none of the
three rows touches a closed one (R99, R122, R123, R180). -/
def Obligations.BuffersCloseForTheirReason : Prop :=
  ∀ (r : Fin 16) (b : Buffer) (s : State), s.ctl.resetBusy = false → (s.route r).buf = some b →
    let y := s.route r
    let three (t : State) : Prop :=
      Acts (.lingerExpiry r) s t ∧ Acts (.bufferCloseStop r) s t ∧ Acts (.bufferCloseQuiesce r) s t
    let closes (why : Reason) : State :=
      s.setRoute r { y with buf := some { b with closed := some why, linger := none } }
    (b.closed ≠ none → three s)
      ∧ (b.closed = none → (∀ p, s.eng.inProg = some p → p.route ≠ r) →
        (∀ k, b.linger = some k → b.count ≠ 0 → y.lingerLimit ≠ 0 → y.lingerLimit * 1024 ≤ k →
            three (closes .linger))
          ∧ (b.linger = none ∨ (∃ k, b.linger = some k ∧ k < y.lingerLimit * 1024) →
            Acts (.lingerExpiry r) s s
              ∧ (y.st = .stopping → framesFor s r = 0 → y.queue = [] →
                Acts (.bufferCloseStop r) s (closes .stop))
              ∧ (y.st = .running → s.ctl.quiescing = true ∨ s.ctl.quiesced = true → framesFor s r = 0 → y.queue = [] →
                Acts (.bufferCloseQuiesce r) s (closes .quiesce))))

/-- Making the entry of a closed buffer counts it in RDONE and BUFFERS and frees the route's buffer. With an empty
backlog, room in the ring and MASTER_EN at 1 the entry's four words are written at the producer slot, little-endian
(R2), and CRPROD advances, the phase toggling at the end of the ring; with the ring full or entries waiting the
entry joins the backlog, with 0x61 if it is the first; with MASTER_EN at 0 it waits (R123, R124, R126, R127).

The words are stated for a ring index that fits the 12-bit INDEX field (log entry 7); the slot's address wraps
modulo 2^64 (log entry 35). -/
def Obligations.CompletionEntryIsMade : Prop :=
  ∀ (r : Fin 16) (b : Buffer) (why : Reason) (s : State), s.ctl.resetBusy = false →
    (s.route r).buf = some b → b.closed = some why → (∀ p, s.eng.inProg = some p → p.route ≠ r) →
    let y := s.route r
    let e := s.eng
    let slots := 2 ^ e.crsize.toNat
    let entry := bufferEntry r b why
    let made : State := s.setRoute r { y.count .buffers 1 with rdone := y.rdone + 1, buf := none }
    (b.idx < 4096 → e.backlog = [] → (e.crprod - e.crcons).toNat ≠ slots → s.host.masterEn = true →
        Acts (.completionEntry r) s
          { made with
            eng :=
              { e with
                crprod := e.crprod + 1
                phase := if (e.crprod + 1).toNat % slots = 0 then !e.phase else e.phase }
            irq := s.irq.report b.intReq
            bus :=
              s.bus
                ++ [.completion
                    (pairWords e.crbaseLo e.crbaseHi + BitVec.ofNat 64 (16 * (e.crprod.toNat % slots)))
                    ([packWord [(b.used, 0), (r.val, 24), (bit e.phase, 31)],
                      packWord [(b.tag.toNat, 0), (b.idx, 16), (reasonCode why, 28)],
                      packWord
                        [(b.count, 0), (bit b.pretrig, 16), (bit b.fcsBad, 17), (bit b.seq, 18), (bit b.mark, 19),
                          (bit b.intReq, 20), (0, 21)],
                      loWord s.tb.ref].flatMap (fun w => leBytes 4 w.toNat))] })
      ∧ (e.backlog ≠ [] →
        Acts (.completionEntry r) s
          { made with
            eng :=
              { e with
                backlog := e.backlog ++ [entry], backlogMax := max e.backlogMax (e.backlog.length + 1) } })
      ∧ (e.backlog = [] → (e.crprod - e.crcons).toNat = slots →
        Acts (.completionEntry r) s
          { made with
            eng := { e with backlog := [entry], backlogMax := 1 }
            ev := (post 0x61 (srcIdx r) (e.crprod.setWidth 32) (e.crcons.setWidth 32) s).ev })
      ∧ (e.backlog = [] → (e.crprod - e.crcons).toNat ≠ slots → s.host.masterEn = false →
        Acts (.completionEntry r) s s)

/-- An ABORTING route with no buffer, no read outstanding and no backlog entry returns the descriptor at RDONE with
reason CANCEL and no bytes, under its tag if the cache holds its data and else with TAG_INVALID; its cache entry
leaves, and RFETCH is never left behind RDONE (R101, R123, R124). The entry is written at the producer slot, or joins
the backlog with the ring full or entries waiting, with 0x61 if it is the first, or waits with MASTER_EN at 0; on
any other route none is made (R123, R126, R127).

The drain posts the entry at the backlog's head to the ring and goes on with the entries behind it, until it has
posted the last one, which 0x62 tells, the ring is full or MASTER_EN is 0 (R127). What one posting is, is stated in
full: the transaction's address, its sixteen bytes with phase and time, the producer count, the phase, and the
report to the moderation (R124, R126, R156).

The word with INDEX is stated for a ring index that fits its 12 bits (log entry 7); the slot's address wraps modulo
2^64 (log entry 35). -/
def Obligations.CancelAndDrain : Prop :=
  let posted (c : Completion) (e : Engine) (s : State) : State :=
    let slots := 2 ^ e.crsize.toNat
    let word1 : Word :=
      if c.idx < 4096 then packWord [(c.tag.toNat, 0), (c.idx, 16), (reasonCode c.reason, 28)] else c.word1
    { s with
      eng :=
        { e with
          crprod := e.crprod + 1
          phase := if (e.crprod + 1).toNat % slots = 0 then !e.phase else e.phase }
      irq := s.irq.report c.intReq
      bus :=
        s.bus
          ++ [.completion (pairWords e.crbaseLo e.crbaseHi + BitVec.ofNat 64 (16 * (e.crprod.toNat % slots)))
              ([packWord [(c.used, 0), (c.route.val, 24), (bit e.phase, 31)], word1,
                packWord
                  [(c.count, 0), (bit c.pretrig, 16), (bit c.fcsBad, 17), (bit c.seq, 18), (bit c.mark, 19),
                    (bit c.intReq, 20), (bit c.tagInvalid, 21)],
                loWord s.tb.ref].flatMap (fun w => leBytes 4 w.toNat))] }
  (∀ (r : Fin 16) (s : State), s.ctl.resetBusy = false →
    let y := s.route r
    let e := s.eng
    let full := (e.crprod - e.crcons).toNat = 2 ^ e.crsize.toNat
    let idx := y.rdone.toNat % 2 ^ fieldOf y.rcfg 16 4
    let entry (tag : BitVec 16) (intReq tagInvalid : Bool) : Completion :=
      { route := r, used := 0, tag := tag, idx := idx, reason := .cancel, count := 0, pretrig := false
        fcsBad := false, seq := false, mark := false, intReq := intReq, tagInvalid := tagInvalid }
    let made : State :=
      s.setRoute r
        { y.count .buffers 1 with
          rdone := y.rdone + 1, cache := y.cache.eraseP (fun c => c.idx == idx)
          rfetch := if y.rfetch = y.rdone then y.rdone + 1 else y.rfetch }
    (y.st = .aborting → y.buf = none → y.read = none → y.rpost ≠ y.rdone → (∀ c ∈ e.backlog, c.route ≠ r) →
        ∀ c : Completion,
        (∃ d, y.dataAtDone = some d ∧ c = entry d.tag d.intReq false)
            ∨ y.dataAtDone = none ∧ c = entry 0 false true →
        (e.backlog = [] → ¬full → s.host.masterEn = true → Acts (.cancelEntry r) s (posted c e made))
          ∧ (e.backlog ≠ [] →
            Acts (.cancelEntry r) s
              { made with
                eng :=
                  { e with backlog := e.backlog ++ [c], backlogMax := max e.backlogMax (e.backlog.length + 1) } })
          ∧ (e.backlog = [] → full →
            Acts (.cancelEntry r) s
              { made with
                eng := { e with backlog := [c], backlogMax := 1 }
                ev := (post 0x61 (srcIdx r) (e.crprod.setWidth 32) (e.crcons.setWidth 32) s).ev })
          ∧ (e.backlog = [] → ¬full → s.host.masterEn = false → Acts (.cancelEntry r) s s))
      ∧ (y.st ≠ .aborting ∨ y.buf ≠ none ∨ y.read ≠ none ∨ y.rpost = y.rdone ∨ (∃ c ∈ e.backlog, c.route = r) →
        Acts (.cancelEntry r) s s)
      ∧ (∀ d, y.dataAtDone = some d ↔
        ∃ c, y.cache.find? (fun c => c.idx == idx) = some c ∧ c.data = some d))
    ∧ ∀ s : State, s.ctl.resetBusy = false →
      let drain (u : State) : State := drainLoop u.eng.backlog.length u
      let e := s.eng
      let full := (e.crprod - e.crcons).toNat = 2 ^ e.crsize.toNat
      Acts .backlogDrain s (drain s)
        ∧ (e.backlog = [] ∨ full ∨ s.host.masterEn = false → drain s = s ∧ Acts .backlogDrain s s)
        ∧ ∀ (c : Completion) (rest : List Completion), e.backlog = c :: rest → ¬full → s.host.masterEn = true →
          let t := posted c { e with backlog := rest } s
          (rest ≠ [] → drain s = drain t ∧ Acts .backlogDrain s (drain t))
            ∧ (rest = [] →
              Acts .backlogDrain s
                { t with
                  eng := { t.eng with backlogMax := 0 }
                  ev := (post 0x62 0xFF (t.eng.crprod.setWidth 32) (BitVec.ofNat 32 e.backlogMax) s).ev })

/-- A STOPPING route that has drained, and an ABORTING route that has returned every posted descriptor, become
DISABLED with RFETCH at RDONE and an empty cache, and 0x51 tells which it was and RDONE; a route that still
holds something does not (R99, R101). -/
def Obligations.DrainedAndAbortedRoutesClose : Prop :=
  ∀ (r : Fin 16) (s : State), s.ctl.resetBusy = false →
    let y := s.route r
    let closes (how : Word) : State :=
      { s.setRoute r { y with st := .disabled, rfetch := y.rdone, cache := [] } with
        ev := (post 0x51 (srcIdx r) how (y.rdone.setWidth 32) s).ev }
    (y.st = .stopping → framesFor s r = 0 → y.queue = [] → y.buf = none → y.read = none →
        (∀ p, s.eng.inProg = some p → p.route ≠ r) → (∀ c ∈ s.eng.backlog, c.route ≠ r) →
        Acts (.routeDrained r) s (closes 0))
      ∧ (y.st = .aborting → y.buf = none → y.read = none → y.rdone = y.rpost →
        (∀ c ∈ s.eng.backlog, c.route ≠ r) → Acts (.routeAbortDone r) s (closes 1))
      ∧ (y.st ≠ .stopping ∨ framesFor s r ≠ 0 ∨ y.queue ≠ [] ∨ y.buf ≠ none ∨ y.read ≠ none
          ∨ (∃ c ∈ s.eng.backlog, c.route = r) → Acts (.routeDrained r) s s)
      ∧ (y.st ≠ .aborting ∨ y.read ≠ none ∨ y.rdone ≠ y.rpost ∨ (∃ c ∈ s.eng.backlog, c.route = r) →
        Acts (.routeAbortDone r) s s)
end

