-- ==== Sys2Proof/Laws/State.lean ====
section
/-! SUPPORT. One lemma per field per update: what the named updates of the state leave as it was, and what the
indexed accessors read after an indexed replacement. -/

namespace Sys2Proof.Machine

/-! ### setLane -/

@[simp] theorem setLane_host (s : State) (n : Fin 4) (l : Lane) : (s.setLane n l).host = s.host := rfl

@[simp] theorem setLane_table (s : State) (n : Fin 4) (l : Lane) : (s.setLane n l).table = s.table := rfl

@[simp] theorem setLane_buf (s : State) (n : Fin 4) (l : Lane) : (s.setLane n l).buf = s.buf := rfl

@[simp] theorem setLane_routes (s : State) (n : Fin 4) (l : Lane) : (s.setLane n l).routes = s.routes := rfl

@[simp] theorem setLane_eng (s : State) (n : Fin 4) (l : Lane) : (s.setLane n l).eng = s.eng := rfl

@[simp] theorem setLane_tb (s : State) (n : Fin 4) (l : Lane) : (s.setLane n l).tb = s.tb := rfl

@[simp] theorem setLane_trigs (s : State) (n : Fin 4) (l : Lane) : (s.setLane n l).trigs = s.trigs := rfl

@[simp] theorem setLane_ev (s : State) (n : Fin 4) (l : Lane) : (s.setLane n l).ev = s.ev := rfl

@[simp] theorem setLane_irq (s : State) (n : Fin 4) (l : Lane) : (s.setLane n l).irq = s.irq := rfl

@[simp] theorem setLane_cmd (s : State) (n : Fin 4) (l : Lane) : (s.setLane n l).cmd = s.cmd := rfl

@[simp] theorem setLane_store (s : State) (n : Fin 4) (l : Lane) : (s.setLane n l).store = s.store := rfl

@[simp] theorem setLane_ctl (s : State) (n : Fin 4) (l : Lane) : (s.setLane n l).ctl = s.ctl := rfl

@[simp] theorem setLane_bus (s : State) (n : Fin 4) (l : Lane) : (s.setLane n l).bus = s.bus := rfl

@[simp] theorem setLane_hostData (s : State) (n : Fin 4) (l : Lane) : (s.setLane n l).hostData = s.hostData := rfl

@[simp] theorem setLane_pos (s : State) (n : Fin 4) (l : Lane) : (s.setLane n l).pos = s.pos := rfl

@[simp] theorem setLane_pending (s : State) (n : Fin 4) (l : Lane) : (s.setLane n l).pending = s.pending := rfl

@[simp] theorem setLane_route (s : State) (n : Fin 4) (l : Lane) (q : Fin 16) : (s.setLane n l).route q = s.route q := rfl

@[simp] theorem setLane_trig (s : State) (n : Fin 4) (l : Lane) (m : Fin 4) : (s.setLane n l).trig m = s.trig m := rfl

@[simp] theorem setLane_entry (s : State) (n : Fin 4) (l : Lane) (j : Fin 32) : (s.setLane n l).entry j = s.entry j := rfl

/-! ### modLane -/

@[simp] theorem modLane_host (s : State) (n : Fin 4) (f : Lane → Lane) : (s.modLane n f).host = s.host := rfl

@[simp] theorem modLane_table (s : State) (n : Fin 4) (f : Lane → Lane) : (s.modLane n f).table = s.table := rfl

@[simp] theorem modLane_buf (s : State) (n : Fin 4) (f : Lane → Lane) : (s.modLane n f).buf = s.buf := rfl

@[simp] theorem modLane_routes (s : State) (n : Fin 4) (f : Lane → Lane) : (s.modLane n f).routes = s.routes := rfl

@[simp] theorem modLane_eng (s : State) (n : Fin 4) (f : Lane → Lane) : (s.modLane n f).eng = s.eng := rfl

@[simp] theorem modLane_tb (s : State) (n : Fin 4) (f : Lane → Lane) : (s.modLane n f).tb = s.tb := rfl

@[simp] theorem modLane_trigs (s : State) (n : Fin 4) (f : Lane → Lane) : (s.modLane n f).trigs = s.trigs := rfl

@[simp] theorem modLane_ev (s : State) (n : Fin 4) (f : Lane → Lane) : (s.modLane n f).ev = s.ev := rfl

@[simp] theorem modLane_irq (s : State) (n : Fin 4) (f : Lane → Lane) : (s.modLane n f).irq = s.irq := rfl

@[simp] theorem modLane_cmd (s : State) (n : Fin 4) (f : Lane → Lane) : (s.modLane n f).cmd = s.cmd := rfl

@[simp] theorem modLane_store (s : State) (n : Fin 4) (f : Lane → Lane) : (s.modLane n f).store = s.store := rfl

@[simp] theorem modLane_ctl (s : State) (n : Fin 4) (f : Lane → Lane) : (s.modLane n f).ctl = s.ctl := rfl

@[simp] theorem modLane_bus (s : State) (n : Fin 4) (f : Lane → Lane) : (s.modLane n f).bus = s.bus := rfl

@[simp] theorem modLane_hostData (s : State) (n : Fin 4) (f : Lane → Lane) : (s.modLane n f).hostData = s.hostData := rfl

@[simp] theorem modLane_pos (s : State) (n : Fin 4) (f : Lane → Lane) : (s.modLane n f).pos = s.pos := rfl

@[simp] theorem modLane_pending (s : State) (n : Fin 4) (f : Lane → Lane) : (s.modLane n f).pending = s.pending := rfl

@[simp] theorem modLane_route (s : State) (n : Fin 4) (f : Lane → Lane) (q : Fin 16) : (s.modLane n f).route q = s.route q := rfl

@[simp] theorem modLane_trig (s : State) (n : Fin 4) (f : Lane → Lane) (m : Fin 4) : (s.modLane n f).trig m = s.trig m := rfl

@[simp] theorem modLane_entry (s : State) (n : Fin 4) (f : Lane → Lane) (j : Fin 32) : (s.modLane n f).entry j = s.entry j := rfl

/-! ### setRoute -/

@[simp] theorem setRoute_host (s : State) (r : Fin 16) (x : Route) : (s.setRoute r x).host = s.host := rfl

@[simp] theorem setRoute_lanes (s : State) (r : Fin 16) (x : Route) : (s.setRoute r x).lanes = s.lanes := rfl

@[simp] theorem setRoute_table (s : State) (r : Fin 16) (x : Route) : (s.setRoute r x).table = s.table := rfl

@[simp] theorem setRoute_buf (s : State) (r : Fin 16) (x : Route) : (s.setRoute r x).buf = s.buf := rfl

@[simp] theorem setRoute_eng (s : State) (r : Fin 16) (x : Route) : (s.setRoute r x).eng = s.eng := rfl

@[simp] theorem setRoute_tb (s : State) (r : Fin 16) (x : Route) : (s.setRoute r x).tb = s.tb := rfl

@[simp] theorem setRoute_trigs (s : State) (r : Fin 16) (x : Route) : (s.setRoute r x).trigs = s.trigs := rfl

@[simp] theorem setRoute_ev (s : State) (r : Fin 16) (x : Route) : (s.setRoute r x).ev = s.ev := rfl

@[simp] theorem setRoute_irq (s : State) (r : Fin 16) (x : Route) : (s.setRoute r x).irq = s.irq := rfl

@[simp] theorem setRoute_cmd (s : State) (r : Fin 16) (x : Route) : (s.setRoute r x).cmd = s.cmd := rfl

@[simp] theorem setRoute_store (s : State) (r : Fin 16) (x : Route) : (s.setRoute r x).store = s.store := rfl

@[simp] theorem setRoute_ctl (s : State) (r : Fin 16) (x : Route) : (s.setRoute r x).ctl = s.ctl := rfl

@[simp] theorem setRoute_bus (s : State) (r : Fin 16) (x : Route) : (s.setRoute r x).bus = s.bus := rfl

@[simp] theorem setRoute_hostData (s : State) (r : Fin 16) (x : Route) : (s.setRoute r x).hostData = s.hostData := rfl

@[simp] theorem setRoute_pos (s : State) (r : Fin 16) (x : Route) : (s.setRoute r x).pos = s.pos := rfl

@[simp] theorem setRoute_pending (s : State) (r : Fin 16) (x : Route) : (s.setRoute r x).pending = s.pending := rfl

@[simp] theorem setRoute_lane (s : State) (r : Fin 16) (x : Route) (m : Fin 4) : (s.setRoute r x).lane m = s.lane m := rfl

@[simp] theorem setRoute_trig (s : State) (r : Fin 16) (x : Route) (m : Fin 4) : (s.setRoute r x).trig m = s.trig m := rfl

@[simp] theorem setRoute_entry (s : State) (r : Fin 16) (x : Route) (j : Fin 32) : (s.setRoute r x).entry j = s.entry j := rfl

/-! ### modRoute -/

@[simp] theorem modRoute_host (s : State) (r : Fin 16) (f : Route → Route) : (s.modRoute r f).host = s.host := rfl

@[simp] theorem modRoute_lanes (s : State) (r : Fin 16) (f : Route → Route) : (s.modRoute r f).lanes = s.lanes := rfl

@[simp] theorem modRoute_table (s : State) (r : Fin 16) (f : Route → Route) : (s.modRoute r f).table = s.table := rfl

@[simp] theorem modRoute_buf (s : State) (r : Fin 16) (f : Route → Route) : (s.modRoute r f).buf = s.buf := rfl

@[simp] theorem modRoute_eng (s : State) (r : Fin 16) (f : Route → Route) : (s.modRoute r f).eng = s.eng := rfl

@[simp] theorem modRoute_tb (s : State) (r : Fin 16) (f : Route → Route) : (s.modRoute r f).tb = s.tb := rfl

@[simp] theorem modRoute_trigs (s : State) (r : Fin 16) (f : Route → Route) : (s.modRoute r f).trigs = s.trigs := rfl

@[simp] theorem modRoute_ev (s : State) (r : Fin 16) (f : Route → Route) : (s.modRoute r f).ev = s.ev := rfl

@[simp] theorem modRoute_irq (s : State) (r : Fin 16) (f : Route → Route) : (s.modRoute r f).irq = s.irq := rfl

@[simp] theorem modRoute_cmd (s : State) (r : Fin 16) (f : Route → Route) : (s.modRoute r f).cmd = s.cmd := rfl

@[simp] theorem modRoute_store (s : State) (r : Fin 16) (f : Route → Route) : (s.modRoute r f).store = s.store := rfl

@[simp] theorem modRoute_ctl (s : State) (r : Fin 16) (f : Route → Route) : (s.modRoute r f).ctl = s.ctl := rfl

@[simp] theorem modRoute_bus (s : State) (r : Fin 16) (f : Route → Route) : (s.modRoute r f).bus = s.bus := rfl

@[simp] theorem modRoute_hostData (s : State) (r : Fin 16) (f : Route → Route) : (s.modRoute r f).hostData = s.hostData := rfl

@[simp] theorem modRoute_pos (s : State) (r : Fin 16) (f : Route → Route) : (s.modRoute r f).pos = s.pos := rfl

@[simp] theorem modRoute_pending (s : State) (r : Fin 16) (f : Route → Route) : (s.modRoute r f).pending = s.pending := rfl

@[simp] theorem modRoute_lane (s : State) (r : Fin 16) (f : Route → Route) (m : Fin 4) : (s.modRoute r f).lane m = s.lane m := rfl

@[simp] theorem modRoute_trig (s : State) (r : Fin 16) (f : Route → Route) (m : Fin 4) : (s.modRoute r f).trig m = s.trig m := rfl

@[simp] theorem modRoute_entry (s : State) (r : Fin 16) (f : Route → Route) (j : Fin 32) : (s.modRoute r f).entry j = s.entry j := rfl

/-! ### setTrig -/

@[simp] theorem setTrig_host (s : State) (n : Fin 4) (t : Trig) : (s.setTrig n t).host = s.host := rfl

@[simp] theorem setTrig_lanes (s : State) (n : Fin 4) (t : Trig) : (s.setTrig n t).lanes = s.lanes := rfl

@[simp] theorem setTrig_table (s : State) (n : Fin 4) (t : Trig) : (s.setTrig n t).table = s.table := rfl

@[simp] theorem setTrig_buf (s : State) (n : Fin 4) (t : Trig) : (s.setTrig n t).buf = s.buf := rfl

@[simp] theorem setTrig_routes (s : State) (n : Fin 4) (t : Trig) : (s.setTrig n t).routes = s.routes := rfl

@[simp] theorem setTrig_eng (s : State) (n : Fin 4) (t : Trig) : (s.setTrig n t).eng = s.eng := rfl

@[simp] theorem setTrig_tb (s : State) (n : Fin 4) (t : Trig) : (s.setTrig n t).tb = s.tb := rfl

@[simp] theorem setTrig_ev (s : State) (n : Fin 4) (t : Trig) : (s.setTrig n t).ev = s.ev := rfl

@[simp] theorem setTrig_irq (s : State) (n : Fin 4) (t : Trig) : (s.setTrig n t).irq = s.irq := rfl

@[simp] theorem setTrig_cmd (s : State) (n : Fin 4) (t : Trig) : (s.setTrig n t).cmd = s.cmd := rfl

@[simp] theorem setTrig_store (s : State) (n : Fin 4) (t : Trig) : (s.setTrig n t).store = s.store := rfl

@[simp] theorem setTrig_ctl (s : State) (n : Fin 4) (t : Trig) : (s.setTrig n t).ctl = s.ctl := rfl

@[simp] theorem setTrig_bus (s : State) (n : Fin 4) (t : Trig) : (s.setTrig n t).bus = s.bus := rfl

@[simp] theorem setTrig_hostData (s : State) (n : Fin 4) (t : Trig) : (s.setTrig n t).hostData = s.hostData := rfl

@[simp] theorem setTrig_pos (s : State) (n : Fin 4) (t : Trig) : (s.setTrig n t).pos = s.pos := rfl

@[simp] theorem setTrig_pending (s : State) (n : Fin 4) (t : Trig) : (s.setTrig n t).pending = s.pending := rfl

@[simp] theorem setTrig_lane (s : State) (n : Fin 4) (t : Trig) (m : Fin 4) : (s.setTrig n t).lane m = s.lane m := rfl

@[simp] theorem setTrig_route (s : State) (n : Fin 4) (t : Trig) (q : Fin 16) : (s.setTrig n t).route q = s.route q := rfl

@[simp] theorem setTrig_entry (s : State) (n : Fin 4) (t : Trig) (j : Fin 32) : (s.setTrig n t).entry j = s.entry j := rfl

/-! ### modTrig -/

@[simp] theorem modTrig_host (s : State) (n : Fin 4) (f : Trig → Trig) : (s.modTrig n f).host = s.host := rfl

@[simp] theorem modTrig_lanes (s : State) (n : Fin 4) (f : Trig → Trig) : (s.modTrig n f).lanes = s.lanes := rfl

@[simp] theorem modTrig_table (s : State) (n : Fin 4) (f : Trig → Trig) : (s.modTrig n f).table = s.table := rfl

@[simp] theorem modTrig_buf (s : State) (n : Fin 4) (f : Trig → Trig) : (s.modTrig n f).buf = s.buf := rfl

@[simp] theorem modTrig_routes (s : State) (n : Fin 4) (f : Trig → Trig) : (s.modTrig n f).routes = s.routes := rfl

@[simp] theorem modTrig_eng (s : State) (n : Fin 4) (f : Trig → Trig) : (s.modTrig n f).eng = s.eng := rfl

@[simp] theorem modTrig_tb (s : State) (n : Fin 4) (f : Trig → Trig) : (s.modTrig n f).tb = s.tb := rfl

@[simp] theorem modTrig_ev (s : State) (n : Fin 4) (f : Trig → Trig) : (s.modTrig n f).ev = s.ev := rfl

@[simp] theorem modTrig_irq (s : State) (n : Fin 4) (f : Trig → Trig) : (s.modTrig n f).irq = s.irq := rfl

@[simp] theorem modTrig_cmd (s : State) (n : Fin 4) (f : Trig → Trig) : (s.modTrig n f).cmd = s.cmd := rfl

@[simp] theorem modTrig_store (s : State) (n : Fin 4) (f : Trig → Trig) : (s.modTrig n f).store = s.store := rfl

@[simp] theorem modTrig_ctl (s : State) (n : Fin 4) (f : Trig → Trig) : (s.modTrig n f).ctl = s.ctl := rfl

@[simp] theorem modTrig_bus (s : State) (n : Fin 4) (f : Trig → Trig) : (s.modTrig n f).bus = s.bus := rfl

@[simp] theorem modTrig_hostData (s : State) (n : Fin 4) (f : Trig → Trig) : (s.modTrig n f).hostData = s.hostData := rfl

@[simp] theorem modTrig_pos (s : State) (n : Fin 4) (f : Trig → Trig) : (s.modTrig n f).pos = s.pos := rfl

@[simp] theorem modTrig_pending (s : State) (n : Fin 4) (f : Trig → Trig) : (s.modTrig n f).pending = s.pending := rfl

@[simp] theorem modTrig_lane (s : State) (n : Fin 4) (f : Trig → Trig) (m : Fin 4) : (s.modTrig n f).lane m = s.lane m := rfl

@[simp] theorem modTrig_route (s : State) (n : Fin 4) (f : Trig → Trig) (q : Fin 16) : (s.modTrig n f).route q = s.route q := rfl

@[simp] theorem modTrig_entry (s : State) (n : Fin 4) (f : Trig → Trig) (j : Fin 32) : (s.modTrig n f).entry j = s.entry j := rfl

/-! ### setEntry -/

@[simp] theorem setEntry_host (s : State) (i : Fin 32) (e : MatchEntry) : (s.setEntry i e).host = s.host := rfl

@[simp] theorem setEntry_lanes (s : State) (i : Fin 32) (e : MatchEntry) : (s.setEntry i e).lanes = s.lanes := rfl

@[simp] theorem setEntry_buf (s : State) (i : Fin 32) (e : MatchEntry) : (s.setEntry i e).buf = s.buf := rfl

@[simp] theorem setEntry_routes (s : State) (i : Fin 32) (e : MatchEntry) : (s.setEntry i e).routes = s.routes := rfl

@[simp] theorem setEntry_eng (s : State) (i : Fin 32) (e : MatchEntry) : (s.setEntry i e).eng = s.eng := rfl

@[simp] theorem setEntry_tb (s : State) (i : Fin 32) (e : MatchEntry) : (s.setEntry i e).tb = s.tb := rfl

@[simp] theorem setEntry_trigs (s : State) (i : Fin 32) (e : MatchEntry) : (s.setEntry i e).trigs = s.trigs := rfl

@[simp] theorem setEntry_ev (s : State) (i : Fin 32) (e : MatchEntry) : (s.setEntry i e).ev = s.ev := rfl

@[simp] theorem setEntry_irq (s : State) (i : Fin 32) (e : MatchEntry) : (s.setEntry i e).irq = s.irq := rfl

@[simp] theorem setEntry_cmd (s : State) (i : Fin 32) (e : MatchEntry) : (s.setEntry i e).cmd = s.cmd := rfl

@[simp] theorem setEntry_store (s : State) (i : Fin 32) (e : MatchEntry) : (s.setEntry i e).store = s.store := rfl

@[simp] theorem setEntry_ctl (s : State) (i : Fin 32) (e : MatchEntry) : (s.setEntry i e).ctl = s.ctl := rfl

@[simp] theorem setEntry_bus (s : State) (i : Fin 32) (e : MatchEntry) : (s.setEntry i e).bus = s.bus := rfl

@[simp] theorem setEntry_hostData (s : State) (i : Fin 32) (e : MatchEntry) : (s.setEntry i e).hostData = s.hostData := rfl

@[simp] theorem setEntry_pos (s : State) (i : Fin 32) (e : MatchEntry) : (s.setEntry i e).pos = s.pos := rfl

@[simp] theorem setEntry_pending (s : State) (i : Fin 32) (e : MatchEntry) : (s.setEntry i e).pending = s.pending := rfl

@[simp] theorem setEntry_lane (s : State) (i : Fin 32) (e : MatchEntry) (m : Fin 4) : (s.setEntry i e).lane m = s.lane m := rfl

@[simp] theorem setEntry_route (s : State) (i : Fin 32) (e : MatchEntry) (q : Fin 16) : (s.setEntry i e).route q = s.route q := rfl

@[simp] theorem setEntry_trig (s : State) (i : Fin 32) (e : MatchEntry) (m : Fin 4) : (s.setEntry i e).trig m = s.trig m := rfl

/-! ### bumpLane -/

@[simp] theorem bumpLane_host (s : State) (n : Fin 4) (c : LaneCtr) : (bumpLane n c s).host = s.host := rfl

@[simp] theorem bumpLane_table (s : State) (n : Fin 4) (c : LaneCtr) : (bumpLane n c s).table = s.table := rfl

@[simp] theorem bumpLane_buf (s : State) (n : Fin 4) (c : LaneCtr) : (bumpLane n c s).buf = s.buf := rfl

@[simp] theorem bumpLane_routes (s : State) (n : Fin 4) (c : LaneCtr) : (bumpLane n c s).routes = s.routes := rfl

@[simp] theorem bumpLane_eng (s : State) (n : Fin 4) (c : LaneCtr) : (bumpLane n c s).eng = s.eng := rfl

@[simp] theorem bumpLane_tb (s : State) (n : Fin 4) (c : LaneCtr) : (bumpLane n c s).tb = s.tb := rfl

@[simp] theorem bumpLane_trigs (s : State) (n : Fin 4) (c : LaneCtr) : (bumpLane n c s).trigs = s.trigs := rfl

@[simp] theorem bumpLane_ev (s : State) (n : Fin 4) (c : LaneCtr) : (bumpLane n c s).ev = s.ev := rfl

@[simp] theorem bumpLane_irq (s : State) (n : Fin 4) (c : LaneCtr) : (bumpLane n c s).irq = s.irq := rfl

@[simp] theorem bumpLane_cmd (s : State) (n : Fin 4) (c : LaneCtr) : (bumpLane n c s).cmd = s.cmd := rfl

@[simp] theorem bumpLane_store (s : State) (n : Fin 4) (c : LaneCtr) : (bumpLane n c s).store = s.store := rfl

@[simp] theorem bumpLane_ctl (s : State) (n : Fin 4) (c : LaneCtr) : (bumpLane n c s).ctl = s.ctl := rfl

@[simp] theorem bumpLane_bus (s : State) (n : Fin 4) (c : LaneCtr) : (bumpLane n c s).bus = s.bus := rfl

@[simp] theorem bumpLane_hostData (s : State) (n : Fin 4) (c : LaneCtr) : (bumpLane n c s).hostData = s.hostData := rfl

@[simp] theorem bumpLane_pos (s : State) (n : Fin 4) (c : LaneCtr) : (bumpLane n c s).pos = s.pos := rfl

@[simp] theorem bumpLane_pending (s : State) (n : Fin 4) (c : LaneCtr) : (bumpLane n c s).pending = s.pending := rfl

@[simp] theorem bumpLane_route (s : State) (n : Fin 4) (c : LaneCtr) (q : Fin 16) : (bumpLane n c s).route q = s.route q := rfl

@[simp] theorem bumpLane_trig (s : State) (n : Fin 4) (c : LaneCtr) (m : Fin 4) : (bumpLane n c s).trig m = s.trig m := rfl

@[simp] theorem bumpLane_entry (s : State) (n : Fin 4) (c : LaneCtr) (j : Fin 32) : (bumpLane n c s).entry j = s.entry j := rfl

/-! ### bumpRoute -/

@[simp] theorem bumpRoute_host (s : State) (r : Fin 16) (c : RouteCtr) : (bumpRoute r c s).host = s.host := rfl

@[simp] theorem bumpRoute_lanes (s : State) (r : Fin 16) (c : RouteCtr) : (bumpRoute r c s).lanes = s.lanes := rfl

@[simp] theorem bumpRoute_table (s : State) (r : Fin 16) (c : RouteCtr) : (bumpRoute r c s).table = s.table := rfl

@[simp] theorem bumpRoute_buf (s : State) (r : Fin 16) (c : RouteCtr) : (bumpRoute r c s).buf = s.buf := rfl

@[simp] theorem bumpRoute_eng (s : State) (r : Fin 16) (c : RouteCtr) : (bumpRoute r c s).eng = s.eng := rfl

@[simp] theorem bumpRoute_tb (s : State) (r : Fin 16) (c : RouteCtr) : (bumpRoute r c s).tb = s.tb := rfl

@[simp] theorem bumpRoute_trigs (s : State) (r : Fin 16) (c : RouteCtr) : (bumpRoute r c s).trigs = s.trigs := rfl

@[simp] theorem bumpRoute_ev (s : State) (r : Fin 16) (c : RouteCtr) : (bumpRoute r c s).ev = s.ev := rfl

@[simp] theorem bumpRoute_irq (s : State) (r : Fin 16) (c : RouteCtr) : (bumpRoute r c s).irq = s.irq := rfl

@[simp] theorem bumpRoute_cmd (s : State) (r : Fin 16) (c : RouteCtr) : (bumpRoute r c s).cmd = s.cmd := rfl

@[simp] theorem bumpRoute_store (s : State) (r : Fin 16) (c : RouteCtr) : (bumpRoute r c s).store = s.store := rfl

@[simp] theorem bumpRoute_ctl (s : State) (r : Fin 16) (c : RouteCtr) : (bumpRoute r c s).ctl = s.ctl := rfl

@[simp] theorem bumpRoute_bus (s : State) (r : Fin 16) (c : RouteCtr) : (bumpRoute r c s).bus = s.bus := rfl

@[simp] theorem bumpRoute_hostData (s : State) (r : Fin 16) (c : RouteCtr) : (bumpRoute r c s).hostData = s.hostData := rfl

@[simp] theorem bumpRoute_pos (s : State) (r : Fin 16) (c : RouteCtr) : (bumpRoute r c s).pos = s.pos := rfl

@[simp] theorem bumpRoute_pending (s : State) (r : Fin 16) (c : RouteCtr) : (bumpRoute r c s).pending = s.pending := rfl

@[simp] theorem bumpRoute_lane (s : State) (r : Fin 16) (c : RouteCtr) (m : Fin 4) : (bumpRoute r c s).lane m = s.lane m := rfl

@[simp] theorem bumpRoute_trig (s : State) (r : Fin 16) (c : RouteCtr) (m : Fin 4) : (bumpRoute r c s).trig m = s.trig m := rfl

@[simp] theorem bumpRoute_entry (s : State) (r : Fin 16) (c : RouteCtr) (j : Fin 32) : (bumpRoute r c s).entry j = s.entry j := rfl

/-! ### post -/

@[simp] theorem post_host (s : State) (c b : Byte) (x y : Word) : (post c b x y s).host = s.host := rfl

@[simp] theorem post_lanes (s : State) (c b : Byte) (x y : Word) : (post c b x y s).lanes = s.lanes := rfl

@[simp] theorem post_table (s : State) (c b : Byte) (x y : Word) : (post c b x y s).table = s.table := rfl

@[simp] theorem post_buf (s : State) (c b : Byte) (x y : Word) : (post c b x y s).buf = s.buf := rfl

@[simp] theorem post_routes (s : State) (c b : Byte) (x y : Word) : (post c b x y s).routes = s.routes := rfl

@[simp] theorem post_eng (s : State) (c b : Byte) (x y : Word) : (post c b x y s).eng = s.eng := rfl

@[simp] theorem post_tb (s : State) (c b : Byte) (x y : Word) : (post c b x y s).tb = s.tb := rfl

@[simp] theorem post_trigs (s : State) (c b : Byte) (x y : Word) : (post c b x y s).trigs = s.trigs := rfl

@[simp] theorem post_irq (s : State) (c b : Byte) (x y : Word) : (post c b x y s).irq = s.irq := rfl

@[simp] theorem post_cmd (s : State) (c b : Byte) (x y : Word) : (post c b x y s).cmd = s.cmd := rfl

@[simp] theorem post_store (s : State) (c b : Byte) (x y : Word) : (post c b x y s).store = s.store := rfl

@[simp] theorem post_ctl (s : State) (c b : Byte) (x y : Word) : (post c b x y s).ctl = s.ctl := rfl

@[simp] theorem post_bus (s : State) (c b : Byte) (x y : Word) : (post c b x y s).bus = s.bus := rfl

@[simp] theorem post_hostData (s : State) (c b : Byte) (x y : Word) : (post c b x y s).hostData = s.hostData := rfl

@[simp] theorem post_pos (s : State) (c b : Byte) (x y : Word) : (post c b x y s).pos = s.pos := rfl

@[simp] theorem post_pending (s : State) (c b : Byte) (x y : Word) : (post c b x y s).pending = s.pending := rfl

@[simp] theorem post_lane (s : State) (c b : Byte) (x y : Word) (m : Fin 4) : (post c b x y s).lane m = s.lane m := rfl

@[simp] theorem post_route (s : State) (c b : Byte) (x y : Word) (q : Fin 16) : (post c b x y s).route q = s.route q := rfl

@[simp] theorem post_trig (s : State) (c b : Byte) (x y : Word) (m : Fin 4) : (post c b x y s).trig m = s.trig m := rfl

@[simp] theorem post_entry (s : State) (c b : Byte) (x y : Word) (j : Fin 32) : (post c b x y s).entry j = s.entry j := rfl

/-! ### issue -/

@[simp] theorem issue_host (s : State) (t : BusTxn) : (issue t s).host = s.host := rfl

@[simp] theorem issue_lanes (s : State) (t : BusTxn) : (issue t s).lanes = s.lanes := rfl

@[simp] theorem issue_table (s : State) (t : BusTxn) : (issue t s).table = s.table := rfl

@[simp] theorem issue_buf (s : State) (t : BusTxn) : (issue t s).buf = s.buf := rfl

@[simp] theorem issue_routes (s : State) (t : BusTxn) : (issue t s).routes = s.routes := rfl

@[simp] theorem issue_eng (s : State) (t : BusTxn) : (issue t s).eng = s.eng := rfl

@[simp] theorem issue_tb (s : State) (t : BusTxn) : (issue t s).tb = s.tb := rfl

@[simp] theorem issue_trigs (s : State) (t : BusTxn) : (issue t s).trigs = s.trigs := rfl

@[simp] theorem issue_ev (s : State) (t : BusTxn) : (issue t s).ev = s.ev := rfl

@[simp] theorem issue_irq (s : State) (t : BusTxn) : (issue t s).irq = s.irq := rfl

@[simp] theorem issue_cmd (s : State) (t : BusTxn) : (issue t s).cmd = s.cmd := rfl

@[simp] theorem issue_store (s : State) (t : BusTxn) : (issue t s).store = s.store := rfl

@[simp] theorem issue_ctl (s : State) (t : BusTxn) : (issue t s).ctl = s.ctl := rfl

@[simp] theorem issue_hostData (s : State) (t : BusTxn) : (issue t s).hostData = s.hostData := rfl

@[simp] theorem issue_pos (s : State) (t : BusTxn) : (issue t s).pos = s.pos := rfl

@[simp] theorem issue_pending (s : State) (t : BusTxn) : (issue t s).pending = s.pending := rfl

@[simp] theorem issue_lane (s : State) (t : BusTxn) (m : Fin 4) : (issue t s).lane m = s.lane m := rfl

@[simp] theorem issue_route (s : State) (t : BusTxn) (q : Fin 16) : (issue t s).route q = s.route q := rfl

@[simp] theorem issue_trig (s : State) (t : BusTxn) (m : Fin 4) : (issue t s).trig m = s.trig m := rfl

@[simp] theorem issue_entry (s : State) (t : BusTxn) (j : Fin 32) : (issue t s).entry j = s.entry j := rfl

/-! ### setFate -/

@[simp] theorem setFate_host (s : State) (n : Fin 4) (f : Fate) : (setFate n f s).host = s.host := rfl

@[simp] theorem setFate_table (s : State) (n : Fin 4) (f : Fate) : (setFate n f s).table = s.table := rfl

@[simp] theorem setFate_buf (s : State) (n : Fin 4) (f : Fate) : (setFate n f s).buf = s.buf := rfl

@[simp] theorem setFate_routes (s : State) (n : Fin 4) (f : Fate) : (setFate n f s).routes = s.routes := rfl

@[simp] theorem setFate_eng (s : State) (n : Fin 4) (f : Fate) : (setFate n f s).eng = s.eng := rfl

@[simp] theorem setFate_tb (s : State) (n : Fin 4) (f : Fate) : (setFate n f s).tb = s.tb := rfl

@[simp] theorem setFate_trigs (s : State) (n : Fin 4) (f : Fate) : (setFate n f s).trigs = s.trigs := rfl

@[simp] theorem setFate_ev (s : State) (n : Fin 4) (f : Fate) : (setFate n f s).ev = s.ev := rfl

@[simp] theorem setFate_irq (s : State) (n : Fin 4) (f : Fate) : (setFate n f s).irq = s.irq := rfl

@[simp] theorem setFate_cmd (s : State) (n : Fin 4) (f : Fate) : (setFate n f s).cmd = s.cmd := rfl

@[simp] theorem setFate_store (s : State) (n : Fin 4) (f : Fate) : (setFate n f s).store = s.store := rfl

@[simp] theorem setFate_ctl (s : State) (n : Fin 4) (f : Fate) : (setFate n f s).ctl = s.ctl := rfl

@[simp] theorem setFate_bus (s : State) (n : Fin 4) (f : Fate) : (setFate n f s).bus = s.bus := rfl

@[simp] theorem setFate_hostData (s : State) (n : Fin 4) (f : Fate) : (setFate n f s).hostData = s.hostData := rfl

@[simp] theorem setFate_pos (s : State) (n : Fin 4) (f : Fate) : (setFate n f s).pos = s.pos := rfl

@[simp] theorem setFate_pending (s : State) (n : Fin 4) (f : Fate) : (setFate n f s).pending = s.pending := rfl

@[simp] theorem setFate_route (s : State) (n : Fin 4) (f : Fate) (q : Fin 16) : (setFate n f s).route q = s.route q := rfl

@[simp] theorem setFate_trig (s : State) (n : Fin 4) (f : Fate) (m : Fin 4) : (setFate n f s).trig m = s.trig m := rfl

@[simp] theorem setFate_entry (s : State) (n : Fin 4) (f : Fate) (j : Fin 32) : (setFate n f s).entry j = s.entry j := rfl

/-! ### flowEval -/

@[simp] theorem flowEval_host (s : State) (r : Fin 16) : (flowEval r s).host = s.host := rfl

@[simp] theorem flowEval_lanes (s : State) (r : Fin 16) : (flowEval r s).lanes = s.lanes := rfl

@[simp] theorem flowEval_table (s : State) (r : Fin 16) : (flowEval r s).table = s.table := rfl

@[simp] theorem flowEval_buf (s : State) (r : Fin 16) : (flowEval r s).buf = s.buf := rfl

@[simp] theorem flowEval_routes (s : State) (r : Fin 16) : (flowEval r s).routes = s.routes := rfl

@[simp] theorem flowEval_eng (s : State) (r : Fin 16) : (flowEval r s).eng = s.eng := rfl

@[simp] theorem flowEval_tb (s : State) (r : Fin 16) : (flowEval r s).tb = s.tb := rfl

@[simp] theorem flowEval_ev (s : State) (r : Fin 16) : (flowEval r s).ev = s.ev := rfl

@[simp] theorem flowEval_irq (s : State) (r : Fin 16) : (flowEval r s).irq = s.irq := rfl

@[simp] theorem flowEval_cmd (s : State) (r : Fin 16) : (flowEval r s).cmd = s.cmd := rfl

@[simp] theorem flowEval_store (s : State) (r : Fin 16) : (flowEval r s).store = s.store := rfl

@[simp] theorem flowEval_ctl (s : State) (r : Fin 16) : (flowEval r s).ctl = s.ctl := rfl

@[simp] theorem flowEval_bus (s : State) (r : Fin 16) : (flowEval r s).bus = s.bus := rfl

@[simp] theorem flowEval_hostData (s : State) (r : Fin 16) : (flowEval r s).hostData = s.hostData := rfl

@[simp] theorem flowEval_pos (s : State) (r : Fin 16) : (flowEval r s).pos = s.pos := rfl

@[simp] theorem flowEval_pending (s : State) (r : Fin 16) : (flowEval r s).pending = s.pending := rfl

@[simp] theorem flowEval_lane (s : State) (r : Fin 16) (m : Fin 4) : (flowEval r s).lane m = s.lane m := rfl

@[simp] theorem flowEval_route (s : State) (r : Fin 16) (q : Fin 16) : (flowEval r s).route q = s.route q := rfl

@[simp] theorem flowEval_entry (s : State) (r : Fin 16) (j : Fin 32) : (flowEval r s).entry j = s.entry j := rfl

/-! ### pulseSource -/

@[simp] theorem pulseSource_host (s : State) (k : Nat) : (pulseSource k s).host = s.host := rfl

@[simp] theorem pulseSource_lanes (s : State) (k : Nat) : (pulseSource k s).lanes = s.lanes := rfl

@[simp] theorem pulseSource_table (s : State) (k : Nat) : (pulseSource k s).table = s.table := rfl

@[simp] theorem pulseSource_buf (s : State) (k : Nat) : (pulseSource k s).buf = s.buf := rfl

@[simp] theorem pulseSource_routes (s : State) (k : Nat) : (pulseSource k s).routes = s.routes := rfl

@[simp] theorem pulseSource_eng (s : State) (k : Nat) : (pulseSource k s).eng = s.eng := rfl

@[simp] theorem pulseSource_tb (s : State) (k : Nat) : (pulseSource k s).tb = s.tb := rfl

@[simp] theorem pulseSource_ev (s : State) (k : Nat) : (pulseSource k s).ev = s.ev := rfl

@[simp] theorem pulseSource_irq (s : State) (k : Nat) : (pulseSource k s).irq = s.irq := rfl

@[simp] theorem pulseSource_cmd (s : State) (k : Nat) : (pulseSource k s).cmd = s.cmd := rfl

@[simp] theorem pulseSource_store (s : State) (k : Nat) : (pulseSource k s).store = s.store := rfl

@[simp] theorem pulseSource_ctl (s : State) (k : Nat) : (pulseSource k s).ctl = s.ctl := rfl

@[simp] theorem pulseSource_bus (s : State) (k : Nat) : (pulseSource k s).bus = s.bus := rfl

@[simp] theorem pulseSource_hostData (s : State) (k : Nat) : (pulseSource k s).hostData = s.hostData := rfl

@[simp] theorem pulseSource_pos (s : State) (k : Nat) : (pulseSource k s).pos = s.pos := rfl

@[simp] theorem pulseSource_pending (s : State) (k : Nat) : (pulseSource k s).pending = s.pending := rfl

@[simp] theorem pulseSource_lane (s : State) (k : Nat) (m : Fin 4) : (pulseSource k s).lane m = s.lane m := rfl

@[simp] theorem pulseSource_route (s : State) (k : Nat) (q : Fin 16) : (pulseSource k s).route q = s.route q := rfl

@[simp] theorem pulseSource_entry (s : State) (k : Nat) (j : Fin 32) : (pulseSource k s).entry j = s.entry j := rfl

/-! ### pulseRouteStart -/

@[simp] theorem pulseRouteStart_host (s : State) (r : Fin 16) : (pulseRouteStart r s).host = s.host := rfl

@[simp] theorem pulseRouteStart_lanes (s : State) (r : Fin 16) : (pulseRouteStart r s).lanes = s.lanes := rfl

@[simp] theorem pulseRouteStart_table (s : State) (r : Fin 16) : (pulseRouteStart r s).table = s.table := rfl

@[simp] theorem pulseRouteStart_buf (s : State) (r : Fin 16) : (pulseRouteStart r s).buf = s.buf := rfl

@[simp] theorem pulseRouteStart_routes (s : State) (r : Fin 16) : (pulseRouteStart r s).routes = s.routes := rfl

@[simp] theorem pulseRouteStart_eng (s : State) (r : Fin 16) : (pulseRouteStart r s).eng = s.eng := rfl

@[simp] theorem pulseRouteStart_tb (s : State) (r : Fin 16) : (pulseRouteStart r s).tb = s.tb := rfl

@[simp] theorem pulseRouteStart_ev (s : State) (r : Fin 16) : (pulseRouteStart r s).ev = s.ev := rfl

@[simp] theorem pulseRouteStart_irq (s : State) (r : Fin 16) : (pulseRouteStart r s).irq = s.irq := rfl

@[simp] theorem pulseRouteStart_cmd (s : State) (r : Fin 16) : (pulseRouteStart r s).cmd = s.cmd := rfl

@[simp] theorem pulseRouteStart_store (s : State) (r : Fin 16) : (pulseRouteStart r s).store = s.store := rfl

@[simp] theorem pulseRouteStart_ctl (s : State) (r : Fin 16) : (pulseRouteStart r s).ctl = s.ctl := rfl

@[simp] theorem pulseRouteStart_bus (s : State) (r : Fin 16) : (pulseRouteStart r s).bus = s.bus := rfl

@[simp] theorem pulseRouteStart_hostData (s : State) (r : Fin 16) : (pulseRouteStart r s).hostData = s.hostData := rfl

@[simp] theorem pulseRouteStart_pos (s : State) (r : Fin 16) : (pulseRouteStart r s).pos = s.pos := rfl

@[simp] theorem pulseRouteStart_pending (s : State) (r : Fin 16) : (pulseRouteStart r s).pending = s.pending := rfl

@[simp] theorem pulseRouteStart_lane (s : State) (r : Fin 16) (m : Fin 4) : (pulseRouteStart r s).lane m = s.lane m := rfl

@[simp] theorem pulseRouteStart_route (s : State) (r : Fin 16) (q : Fin 16) : (pulseRouteStart r s).route q = s.route q := rfl

@[simp] theorem pulseRouteStart_entry (s : State) (r : Fin 16) (j : Fin 32) : (pulseRouteStart r s).entry j = s.entry j := rfl

/-! ### Reading back -/

@[simp] theorem lane_setLane (s : State) (n : Fin 4) (l : Lane) : (s.setLane n l).lane n = l := by
  simp [State.lane, State.setLane]

theorem lane_setLane_ne (s : State) {n m : Fin 4} (l : Lane) (h : m ≠ n) : (s.setLane n l).lane m = s.lane m := by
  have h' : n.val ≠ m.val := fun e => h (Fin.ext e.symm)
  simp [State.lane, State.setLane, Vector.getElem_set_ne, h']

@[simp] theorem lane_modLane (s : State) (n : Fin 4) (f : Lane → Lane) : (s.modLane n f).lane n = f (s.lane n) :=
  lane_setLane s n _

theorem lane_modLane_ne (s : State) {n m : Fin 4} (f : Lane → Lane) (h : m ≠ n) :
    (s.modLane n f).lane m = s.lane m := lane_setLane_ne s _ h

@[simp] theorem route_setRoute (s : State) (r : Fin 16) (x : Route) : (s.setRoute r x).route r = x := by
  simp [State.route, State.setRoute]

theorem route_setRoute_ne (s : State) {r q : Fin 16} (x : Route) (h : q ≠ r) :
    (s.setRoute r x).route q = s.route q := by
  have h' : r.val ≠ q.val := fun e => h (Fin.ext e.symm)
  simp [State.route, State.setRoute, Vector.getElem_set_ne, h']

@[simp] theorem route_modRoute (s : State) (r : Fin 16) (f : Route → Route) :
    (s.modRoute r f).route r = f (s.route r) := route_setRoute s r _

theorem route_modRoute_ne (s : State) {r q : Fin 16} (f : Route → Route) (h : q ≠ r) :
    (s.modRoute r f).route q = s.route q := route_setRoute_ne s _ h

@[simp] theorem trig_setTrig (s : State) (n : Fin 4) (t : Trig) : (s.setTrig n t).trig n = t := by
  simp [State.trig, State.setTrig]

theorem trig_setTrig_ne (s : State) {n m : Fin 4} (t : Trig) (h : m ≠ n) : (s.setTrig n t).trig m = s.trig m := by
  have h' : n.val ≠ m.val := fun e => h (Fin.ext e.symm)
  simp [State.trig, State.setTrig, Vector.getElem_set_ne, h']

@[simp] theorem trig_modTrig (s : State) (n : Fin 4) (f : Trig → Trig) : (s.modTrig n f).trig n = f (s.trig n) :=
  trig_setTrig s n _

theorem trig_modTrig_ne (s : State) {n m : Fin 4} (f : Trig → Trig) (h : m ≠ n) :
    (s.modTrig n f).trig m = s.trig m := trig_setTrig_ne s _ h

@[simp] theorem entry_setEntry (s : State) (i : Fin 32) (e : MatchEntry) : (s.setEntry i e).entry i = e := by
  simp [State.entry, State.setEntry]

theorem entry_setEntry_ne (s : State) {i j : Fin 32} (e : MatchEntry) (h : j ≠ i) :
    (s.setEntry i e).entry j = s.entry j := by
  have h' : i.val ≠ j.val := fun e => h (Fin.ext e.symm)
  simp [State.entry, State.setEntry, Vector.getElem_set_ne, h']

/-- A map over a vector, entry by entry. -/
@[simp] theorem getElem_mapVec {α β : Type} {n : Nat} (f : α → β) (v : Vector α n) (i : Nat) (h : i < n) :
    (mapVec f v)[i] = f v[i] := by
  simp [mapVec]

end Sys2Proof.Machine
end

