-- ==== Sys2Proof/Laws/Memory.lean ====
section
/-! SUPPORT. Buffer memory (R68): every operation keeps the canonical form, a read after a write to its address
gives what was written, and every other address reads as before. -/

namespace Sys2Proof.Machine

theorem wfFrom_mono {lo lo' : Nat} (h : lo' ≤ lo) : ∀ m : Memory, Memory.wfFrom lo m = true →
    Memory.wfFrom lo' m = true
  | [], _ => rfl
  | (a, b) :: rest, hm => by
    simp only [Memory.wfFrom, Bool.and_eq_true, decide_eq_true_eq] at hm ⊢
    exact ⟨⟨by omega, hm.1.2⟩, hm.2⟩

theorem wfFrom_write (x : Nat) (v : Byte) : ∀ (m : Memory) (lo : Nat), lo ≤ x → Memory.wfFrom lo m = true →
    Memory.wfFrom lo (Memory.write m x v) = true
  | [], lo, hx, _ => by
    by_cases hv : v = Memory.blank <;> simp [Memory.write, Memory.wfFrom, hv, hx]
  | (a, b) :: rest, lo, hx, hm => by
    simp only [Memory.wfFrom, Bool.and_eq_true, decide_eq_true_eq] at hm
    obtain ⟨⟨ha, hb⟩, hr⟩ := hm
    unfold Memory.write
    by_cases h1 : x = a
    · subst h1
      by_cases hv : v = Memory.blank
      · simpa [hv] using wfFrom_mono (by omega) rest hr
      · simp [hv, Memory.wfFrom, hx, hr]
    · by_cases h2 : x < a
      · by_cases hv : v = Memory.blank
        · simp_all [Memory.wfFrom]
        · simp_all [Memory.wfFrom, Nat.succ_le_of_lt h2]
      · simp only [h1, h2, if_false, Memory.wfFrom, Bool.and_eq_true, decide_eq_true_eq]
        exact ⟨⟨ha, hb⟩, wfFrom_write x v rest (a + 1) (by omega) hr⟩

/-- A write of one byte keeps the canonical form. -/
theorem wf_write {m : Memory} (h : m.wf = true) (x : Nat) (v : Byte) : (Memory.write m x v).wf = true :=
  wfFrom_write x v m 0 (Nat.zero_le _) h

/-- A write at an offset of a chain keeps the canonical form. -/
theorem wf_writeChain {m : Memory} (h : m.wf = true) (chain : List Nat) (off : Nat) (v : Byte) :
    (Memory.writeChain m chain off v).wf = true := by
  unfold Memory.writeChain
  split
  · exact wf_write h _ _
  · exact h

/-- A write of consecutive bytes of a chain keeps the canonical form. -/
theorem wf_writeBytes (chain : List Nat) : ∀ (vs : List Byte) (off : Nat) (m : Memory), m.wf = true →
    (Memory.writeBytes chain vs off m).wf = true
  | [], _, _, h => h
  | v :: vs, off, _, h => wf_writeBytes chain vs (off + 1) _ (wf_writeChain h chain off v)

/-- Buffer memory after a reset is canonical. -/
theorem wf_reset : State.reset.buf.mem.wf = true := rfl

theorem read_below : ∀ (m : Memory) (lo x : Nat), Memory.wfFrom lo m = true → x < lo →
    Memory.read m x = Memory.blank
  | [], _, _, _, _ => rfl
  | (a, b) :: rest, lo, x, hm, hx => by
    simp only [Memory.wfFrom, Bool.and_eq_true, decide_eq_true_eq] at hm
    have h1 : x ≠ a := by omega
    have h2 : x < a := by omega
    simp [Memory.read, h1, h2]

/-- One byte's write, read back: the byte written at its address, and what stood there at any other. The
addresses need only rise. -/
theorem read_write_from : ∀ (m : Memory) (lo x : Nat) (v : Byte) (y : Nat), Memory.wfFrom lo m = true →
    Memory.read (Memory.write m x v) y = if y = x then v else Memory.read m y
  | [], lo, x, v, y, _ => by
    by_cases hv : v = Memory.blank <;> by_cases hy : y = x <;> simp [Memory.write, Memory.read, hv, hy]
  | (a, b) :: rest, lo, x, v, y, hm => by
    have hm' := hm
    simp only [Memory.wfFrom, Bool.and_eq_true, decide_eq_true_eq] at hm
    obtain ⟨⟨ha, hb⟩, hr⟩ := hm
    unfold Memory.write
    by_cases h1 : x = a
    · subst h1
      by_cases hv : v = Memory.blank
      · simp only [hv, if_true]
        by_cases hy : y = x
        · subst hy; simp [read_below rest (y + 1) y hr (by omega)]
        · simp only [hy, if_false, Memory.read]
          by_cases hlt : y < x
          · simp [hlt, read_below rest (x + 1) y hr (by omega)]
          · simp [hlt]
      · by_cases hy : y = x <;> simp [hv, hy, Memory.read]
    · by_cases h2 : x < a
      · by_cases hv : v = Memory.blank
        · simp only [h1, h2, hv, if_true, if_false]
          by_cases hy : y = x
          · subst hy; simp [Memory.read, h1, h2]
          · simp [hy]
        · by_cases hy : y = x
          · simp [h1, h2, hv, hy, Memory.read]
          · simp only [h1, h2, hv, if_true, if_false, hy, Memory.read]
            by_cases hlt : y < x
            · have h3 : y ≠ a := by omega
              have h4 : y < a := by omega
              simp [hlt, h3, h4]
            · simp [hlt]
      · simp only [h1, h2, if_false, Memory.read]
        rw [read_write_from rest (a + 1) x v y hr]
        by_cases hy : y = x
        · subst hy; simp [h1, h2]
        · simp [hy]

/-- A read after a write to its address gives the byte written. -/
theorem read_write_same {m : Memory} (h : m.wf = true) (x : Nat) (v : Byte) :
    Memory.read (Memory.write m x v) x = v := by
  rw [read_write_from m 0 x v x h, if_pos rfl]

/-- A write leaves every other address alone. -/
theorem read_write_ne {m : Memory} (h : m.wf = true) (x : Nat) (v : Byte) {y : Nat} (hy : y ≠ x) :
    Memory.read (Memory.write m x v) y = Memory.read m y := by
  rw [read_write_from m 0 x v y h, if_neg hy]

/-- A write of consecutive bytes of a chain leaves every address alone that is not one of theirs. -/
theorem read_writeBytes_frame (chain : List Nat) (y : Nat) : ∀ (vs : List Byte) (off : Nat) (m : Memory),
    m.wf = true → (∀ o, off ≤ o → o < off + vs.length → chainAddr chain o ≠ some y) →
    Memory.read (Memory.writeBytes chain vs off m) y = Memory.read m y
  | [], _, _, _, _ => rfl
  | v :: vs, off, m, h, hne => by
    unfold Memory.writeBytes
    rw [read_writeBytes_frame chain y vs (off + 1) _ (wf_writeChain h chain off v)
      (fun o h1 h2 => hne o (by omega) (by simp only [List.length_cons]; omega))]
    have h0 := hne off (Nat.le_refl _) (by simp only [List.length_cons]; omega)
    unfold Memory.writeChain
    split
    · rename_i a ha
      exact read_write_ne h a v (fun e => h0 (by rw [ha, e]))
    · rfl

/-- The payload of a record has the length asked for, and its bytes are the stored ones, zero beyond LENGTH. -/
theorem payloadBytes_spec (m : Memory) (x : Record) : ∀ (n k : Nat),
    (payloadBytes m x k n).length = n ∧ ∀ (i : Nat) (h : i < (payloadBytes m x k n).length),
      (payloadBytes m x k n)[i] = if k + i < x.length then m.readChain x.chain (k + i) else 0
  | 0, k => ⟨rfl, fun i h => by simp [payloadBytes] at h⟩
  | n + 1, k => by
    obtain ⟨h1, h2⟩ := payloadBytes_spec m x n (k + 1)
    refine ⟨by simp [payloadBytes, h1], fun i h => ?_⟩
    cases i with
    | zero => simp [payloadBytes]
    | succ i =>
      have h' : i < (payloadBytes m x (k + 1) n).length := by simpa [payloadBytes] using h
      have := h2 i h'
      simp only [payloadBytes, List.getElem_cons_succ, this, Nat.add_right_comm k 1 i, Nat.add_assoc]

end Sys2Proof.Machine
end

