-- ==== Sys2Proof/Laws/Ops.lean ====
section
/-! SUPPORT. What each shared operation can do, said once: replacing a lane or a route by itself or twice, posting,
releasing, dropping a head record, settling a lane, abandoning, the command step, a host write, and the making of
completion entries. -/

namespace Sys2Proof.Machine

/-! ### Replacing one lane, route, line or entry -/

@[simp] theorem setLane_self (s : State) (n : Fin 4) : s.setLane n (s.lane n) = s := by
  cases s; simp [State.setLane, State.lane]

@[simp] theorem setLane_setLane (s : State) (n : Fin 4) (a b : Lane) :
    (s.setLane n a).setLane n b = s.setLane n b := by
  simp [State.setLane]

@[simp] theorem setRoute_self (s : State) (r : Fin 16) : s.setRoute r (s.route r) = s := by
  cases s; simp [State.setRoute, State.route]

@[simp] theorem setRoute_setRoute (s : State) (r : Fin 16) (a b : Route) :
    (s.setRoute r a).setRoute r b = s.setRoute r b := by
  simp [State.setRoute]

@[simp] theorem setTrig_self (s : State) (n : Fin 4) : s.setTrig n (s.trig n) = s := by
  cases s; simp [State.setTrig, State.trig]

@[simp] theorem setTrig_setTrig (s : State) (n : Fin 4) (a b : Trig) :
    (s.setTrig n a).setTrig n b = s.setTrig n b := by
  simp [State.setTrig]

@[simp] theorem modLane_modLane (s : State) (n : Fin 4) (f g : Lane → Lane) :
    (s.modLane n f).modLane n g = s.modLane n (fun l => g (f l)) := by
  simp [State.modLane]

@[simp] theorem modRoute_modRoute (s : State) (r : Fin 16) (f g : Route → Route) :
    (s.modRoute r f).modRoute r g = s.modRoute r (fun t => g (f t)) := by
  simp [State.modRoute]

/-- Reading any lane after one is replaced. -/
theorem lane_setLane_ite (s : State) (n m : Fin 4) (l : Lane) :
    (s.setLane n l).lane m = if m = n then l else s.lane m := by
  by_cases h : m = n
  · subst h; simp
  · simp [h, lane_setLane_ne]

/-- Reading any lane after one is changed. -/
theorem lane_modLane_ite (s : State) (n m : Fin 4) (f : Lane → Lane) :
    (s.modLane n f).lane m = if m = n then f (s.lane n) else s.lane m := lane_setLane_ite s n m _

/-- Reading any route after one is replaced. -/
theorem route_setRoute_ite (s : State) (r q : Fin 16) (x : Route) :
    (s.setRoute r x).route q = if q = r then x else s.route q := by
  by_cases h : q = r
  · subst h; simp
  · simp [h, route_setRoute_ne]

/-- Reading any route after one is changed. -/
theorem route_modRoute_ite (s : State) (r q : Fin 16) (f : Route → Route) :
    (s.modRoute r f).route q = if q = r then f (s.route r) else s.route q := route_setRoute_ite s r q _

/-- Every lane is in the list of lanes, and every route in the list of routes. -/
theorem mem_allLanes (n : Fin 4) : n ∈ allLanes := by revert n; decide

/-- See `mem_allLanes`. -/
theorem mem_allRoutes (r : Fin 16) : r ∈ allRoutes := by revert r; decide

/-- A test of all routes holds when it holds of each. -/
theorem all_routes {p : Fin 16 → Bool} : allRoutes.all p = true ↔ ∀ r, p r = true :=
  ⟨fun h r => List.all_eq_true.mp h r (mem_allRoutes r), fun h => List.all_eq_true.mpr fun r _ => h r⟩

/-- A test of all lanes holds when it holds of each. -/
theorem all_lanes {p : Fin 4 → Bool} : allLanes.all p = true ↔ ∀ n, p n = true :=
  ⟨fun h n => List.all_eq_true.mp h n (mem_allLanes n), fun h => List.all_eq_true.mpr fun n _ => h n⟩

/-- Every route is DISABLED. -/
theorem allDisabled_iff (s : State) : allDisabled s = true ↔ ∀ r, (s.route r).st = .disabled := by
  unfold allDisabled
  rw [all_routes]
  simp only [beq_iff_eq]

/-- Every route that uses the window is DISABLED. -/
theorem windowFree_iff (s : State) (w : Fin 4) :
    windowFree s w = true ↔ ∀ r, (s.route r).window = w → (s.route r).st = .disabled := by
  simp only [windowFree, all_routes, Bool.or_eq_true, bne_iff_ne, beq_iff_eq]
  exact forall_congr' fun r => by tauto

/-! ### Counters -/

@[simp] theorem counter_count_self (l : Lane) (c : LaneCtr) : (l.count c).counter c = l.counter c + 1 := by
  simp [Lane.count, Lane.counter]

/-- Counting one lane counter leaves the others alone. -/
theorem counter_count_ne (l : Lane) {c d : LaneCtr} (h : d ≠ c) : (l.count c).counter d = l.counter d := by
  cases c <;> cases d <;> first | exact absurd rfl h | simp [Lane.count, Lane.counter, laneCtrIdx]

@[simp] theorem route_counter_count_self (t : Route) (c : RouteCtr) (k : Nat) :
    (t.count c k).counter c = t.counter c + BitVec.ofNat 32 k := by
  simp [Route.count, Route.counter]

/-- Counting one route counter leaves the others alone. -/
theorem route_counter_count_ne (t : Route) {c d : RouteCtr} (k : Nat) (h : d ≠ c) :
    (t.count c k).counter d = t.counter d := by
  cases c <;> cases d <;> first | exact absurd rfl h | simp [Route.count, Route.counter, routeCtrIdx]

/-! ### Posting (R147, R148) -/

/-- An event changes the event queue and its counter, and nothing else. -/
theorem post_eq (c b : Byte) (x y : Word) (s : State) :
    post c b x y s =
      { s with
        ev :=
          { queue := enqueueEvent s.ev.queue
              { cause := c, source := b, seq := s.ev.seq, time := loWord s.tb.ref, a := x, b := y }
            seq := s.ev.seq + 1 } } := rfl

/-- What is posted depends on the event queue and the counter alone. -/
theorem post_ev_congr (c b : Byte) (x y : Word) {s t : State} (h1 : s.ev = t.ev) (h2 : s.tb.ref = t.tb.ref) :
    (post c b x y s).ev = (post c b x y t).ev := by
  simp [post_eq, h1, h2]

/-- The queue keeps within 64 entries, and a queue of 64 ends with a loss marker (R148). -/
theorem enqueueEvent_bound (q : List Event) (e : Event) (h : q.length ≤ 64)
    (hm : q.length = 64 → ∃ m, q.getLast? = some m ∧ m.isMarker = true) :
    (enqueueEvent q e).length ≤ 64 ∧
      ((enqueueEvent q e).length = 64 → ∃ m, (enqueueEvent q e).getLast? = some m ∧ m.isMarker = true) := by
  have hb : (if essential e.cause = true then Config.essentialBudget else Config.routineBudget) ≤ 63 := by
    split <;> decide
  by_cases hlt : q.length < (if essential e.cause = true then Config.essentialBudget else Config.routineBudget)
  · simp only [enqueueEvent, if_pos hlt, List.length_append, List.length_singleton]
    exact ⟨by omega, fun h64 => by omega⟩
  · cases hl : q.getLast? with
    | none => simpa only [enqueueEvent, if_neg hlt, hl] using And.intro h hm
    | some m =>
      have hpos : 0 < q.length := by
        cases q with
        | nil => simp at hl
        | cons => simp
      cases hmk : m.isMarker with
      | true =>
        simp only [enqueueEvent, if_neg hlt, hl, hmk, if_true]
        refine ⟨by simp only [List.length_append, List.length_dropLast, List.length_singleton]; omega, fun _ => ?_⟩
        exact ⟨_, List.getLast?_concat, hmk⟩
      | false =>
        have h64 : q.length < Config.eventDepth := by
          rcases Nat.lt_or_ge q.length 64 with h1 | h1
          · exact h1
          · obtain ⟨m', hm1, hm2⟩ := hm (by omega)
            rw [hl] at hm1
            cases hm1
            simp [hmk] at hm2
        have h64' : q.length < 64 := h64
        simp only [enqueueEvent, if_neg hlt, hl, hmk, Bool.false_eq_true, if_false, if_pos h64]
        refine ⟨by simp only [List.length_append, List.length_singleton]; omega, fun _ => ?_⟩
        exact ⟨_, List.getLast?_concat, rfl⟩

/-- Posting keeps the bound of the event queue. -/
theorem eventsOk_post {s : State} (h : EventsOk s) (c b : Byte) (x y : Word) : EventsOk (post c b x y s) :=
  enqueueEvent_bound _ _ h.1 h.2

/-! ### Release and flow (R78, R85, R143) -/

/-- The SHED test that reports changes SHED and, with it, the event queue, and nothing else. -/
theorem shedTest_cases (s : State) :
    shedTest true s = s ∨ (s.buf.shed = true ∧
      shedTest true s =
        { s with
          buf := { s.buf with shed := false }
          ev := (post 0x41 noSource (BitVec.ofNat 32 s.buf.free.length)
            (BitVec.ofNat 32 s.buf.bshed.toNat) s).ev }) := by
  unfold shedTest
  split
  · rename_i h
    exact .inr ⟨h.1, rfl⟩
  · exact .inl rfl

/-- With SHED at 0 there is nothing to test. -/
theorem shedTest_clear {s : State} (report : Bool) (h : s.buf.shed = false) : shedTest report s = s := by
  simp [shedTest, h]

/-- The SHED test of a preset changes SHED alone (R171). -/
theorem shedTest_silent (s : State) :
    ∃ sh, shedTest false s = { s with buf := { s.buf with shed := sh } } ∧ (s.buf.shed = false → sh = false) := by
  unfold shedTest
  split
  · exact ⟨false, rfl, fun _ => rfl⟩
  · exact ⟨s.buf.shed, rfl, id⟩

/-- What the SHED test changes. -/
theorem shedTest_frame (s : State) : ∃ sh ev,
    shedTest true s = { s with buf := { s.buf with shed := sh }, ev := ev } ∧ (s.buf.shed = false → ev = s.ev ∧ sh = false) := by
  rcases shedTest_cases s with h | ⟨h1, h⟩
  · exact ⟨s.buf.shed, s.ev, h, fun h => ⟨rfl, h⟩⟩
  · exact ⟨false, _, h, fun h2 => by simp [h1] at h2⟩

/-- What a release changes: its blocks join the tail of the free list; SHED, the event queue and the trigger lines
may change; nothing else does. With SHED at 0 the event queue does not. -/
theorem releaseChain_frame (r : Fin 16) (chain : List Nat) (s : State) : ∃ sh ev trigs,
    releaseChain r chain s =
      { s with buf := { s.buf with free := s.buf.free ++ chain, shed := sh }, ev := ev, trigs := trigs }
      ∧ (s.buf.shed = false → ev = s.ev ∧ sh = false) := by
  obtain ⟨sh, ev, h, h'⟩ := shedTest_frame { s with buf := { s.buf with free := s.buf.free ++ chain } }
  unfold releaseChain
  rw [h]
  exact ⟨sh, ev, _, rfl, h'⟩

/-- Losing marks changes one counter of one lane. -/
theorem loseMarks_cases (n : Fin 4) (m : Bool) (s : State) :
    loseMarks n m s = if m then bumpLane n .marksLost s else s := rfl

/-- What the lanes read after marks were lost. -/
theorem lane_loseMarks (n k : Fin 4) (m : Bool) (s : State) :
    (loseMarks n m s).lane k = if m = true ∧ k = n then (s.lane n).count .marksLost else s.lane k := by
  unfold loseMarks bumpLane
  cases m
  · simp
  · by_cases h : k = n
    · subst h; simp
    · simp [h, lane_modLane_ne]

/-- What a head record's departure changes: the queue loses its head, the chain joins the free list, and the marks
of a record that is lost are counted on its lane. -/
theorem dropHead_frame (r : Fin 16) (lost : Bool) (s : State) (x : Record) (rest : List Record)
    (h : (s.route r).queue = x :: rest) : ∃ sh ev trigs,
    dropHead r lost s =
      { loseMarks x.lane (lost && x.mark) (s.setRoute r { s.route r with queue := rest }) with
        buf := { s.buf with free := s.buf.free ++ x.chain, shed := sh }, ev := ev, trigs := trigs }
      ∧ (s.buf.shed = false → ev = s.ev ∧ sh = false) := by
  obtain ⟨sh, ev, tr, e, h'⟩ :=
    releaseChain_frame r x.chain
      (loseMarks x.lane (lost && x.mark) (s.modRoute r (fun t => { t with queue := rest })))
  have hd : dropHead r lost s = releaseChain r x.chain
      (loseMarks x.lane (lost && x.mark) (s.modRoute r (fun t => { t with queue := rest }))) := by
    simp only [dropHead, h]
  rw [hd, e]
  refine ⟨sh, ev, tr, ?_, ?_⟩
  · cases lost && x.mark <;> rfl
  · intro hs
    cases hl : lost && x.mark <;> rw [hl] at h' <;> exact h' hs

/-! ### Synchronizer -/

/-- A lane on which nothing is due is settled. -/
theorem laneQuiet_settle {n : Fin 4} {s : State} (h : laneQuiet (s.lane n) = true) : settleLane n s = s := by
  simp only [laneQuiet, Bool.and_eq_true, Bool.not_eq_true', Bool.and_eq_false_iff, beq_eq_false_iff_ne] at h
  obtain ⟨⟨⟨⟨h1, h2⟩, h3⟩, h4⟩, h5⟩ := h
  have a : headerExtentAt n s = s := by simp [headerExtentAt, h1]
  have b : frameEndAt n s = s := by simp [frameEndAt, h2]
  have c : syncPositionAt n s = s := by simp [syncPositionAt, h3]
  have d : syncFoundAt n s = s := by
    rcases h4 with h4 | h4 <;> simp [syncFoundAt, h4]
  simp [settleLane, settleSync, a, b, c, d, flipAt, h5]

/-- A lane whose last comparison has been made, with no body framed and no flip due, has nothing left to
settle. -/
theorem settleLane_idle {n : Fin 4} {s : State} (h2 : (s.lane n).cmpDue = false)
    (h3 : (s.lane n).asm = none) (h4 : (s.lane n).flipDue = false) : settleLane n s = s :=
  laneQuiet_settle (by simp [laneQuiet, Lane.headerDue, Lane.frameEndDue, Lane.positionDue, h2, h3, h4])

/-- Losing marks, as a replacement of the lane. -/
theorem loseMarks_setLane (n : Fin 4) (m : Bool) (s : State) :
    loseMarks n m s = s.setLane n (if m then (s.lane n).count .marksLost else s.lane n) := by
  cases m <;> simp [loseMarks, bumpLane, State.modLane]

/-- The counters of an abandoned frame: ABANDONED unless it was withdrawn, MARKSLOST for marks it held and no one
else has counted (R49, R50). -/
def Lane.countAbandoned (l : Lane) : Lane :=
  match l.frame with
  | none => l
  | some f =>
    match f.fate with
    | .withdrawn => l
    | .dropped => l.count .abandoned
    | _ => if f.marked then (l.count .abandoned).count .marksLost else l.count .abandoned

/-- What abandoning a lane's frame changes: the lane frames nothing, the frame's blocks join the free list, and its
counters say so. -/
theorem abandon_frame (n : Fin 4) (s : State) : ∃ sh ev trigs,
    abandon n s =
      { s.setLane n { (s.lane n).countAbandoned with asm := none, frame := none } with
        buf := { s.buf with free := s.buf.free ++ (s.lane n).blocks, shed := sh }, ev := ev, trigs := trigs }
      ∧ (s.buf.shed = false ∨ (∀ t, (s.lane n).frame.map FrameCtx.fate ≠ some (.admitted t)) → ev = s.ev) := by
  cases hf : (s.lane n).frame with
  | none =>
    refine ⟨s.buf.shed, s.ev, s.trigs, ?_, fun _ => rfl⟩
    simp only [abandon, hf, Lane.blocks, List.append_nil, Lane.countAbandoned, State.modLane]
    rfl
  | some f =>
    cases hfate : f.fate with
    | undecided =>
      refine ⟨s.buf.shed, s.ev, s.trigs, ?_, fun _ => rfl⟩
      simp only [abandon, hf, hfate, Lane.blocks, List.append_nil, Lane.countAbandoned, loseMarks_setLane, bumpLane,
        State.modLane, lane_setLane, setLane_setLane]
      cases f.marked <;> rfl
    | dropped =>
      refine ⟨s.buf.shed, s.ev, s.trigs, ?_, fun _ => rfl⟩
      simp only [abandon, hf, hfate, Lane.blocks, List.append_nil, Lane.countAbandoned, bumpLane,
        State.modLane, lane_setLane, setLane_setLane]
      rfl
    | withdrawn =>
      refine ⟨s.buf.shed, s.ev, s.trigs, ?_, fun _ => rfl⟩
      simp only [abandon, hf, hfate, Lane.blocks, List.append_nil, Lane.countAbandoned, State.modLane]
      rfl
    | admitted t =>
      obtain ⟨sh, ev, tr, e, h'⟩ :=
        releaseChain_frame t.route t.chain (s.modLane n (fun l => { l with asm := none, frame := none }))
      refine ⟨sh, ev, tr, ?_, ?_⟩
      · have hb : (s.lane n).blocks = t.chain := by simp only [Lane.blocks, hf, hfate]
        simp only [abandon, hf, hfate, hb, Lane.countAbandoned, e]
        simp only [loseMarks_setLane, bumpLane, State.modLane, lane_setLane, setLane_setLane]
        cases f.marked <;> simp [State.setLane, State.lane, Lane.count, Lane.counter]
      · rintro (h | h)
        · exact (h' h).1
        · exact absurd (by simp [hfate]) (h t)

/-! ### The command step (R160, R161) -/

/-- The command step of a head command with the row's opcode. -/
theorem runCmd_ready {s : State} {c : Cmd} {rest : List Cmd} {op : Byte} (owner : Cmd → State → State)
    (h : Ready s c rest) (ho : c.op = op) :
    runCmd op owner s = if targetOk c.op c.target then owner c s else endCmd c .badTarget 0 s := by
  obtain ⟨h1, h2, h3⟩ := h
  simp [runCmd, headToStart, h1, h2, h3, ho]

/-- The result of the head command: the event is posted and the command leaves the FIFO. -/
theorem endCmd_ready {s : State} {c : Cmd} {rest : List Cmd} (res : Result) (b : Word) (h : Ready s c rest) :
    endCmd c res b s =
      { s with
        ev := (post (resultCause res) c.target c.detail b s).ev
        cmd := { s.cmd with fifo := rest } } := by
  obtain ⟨h1, h2, _⟩ := h
  have hc : { s.cmd with fifo := s.cmd.fifo.drop 1, busy := false } = ({ s.cmd with fifo := rest } : CmdPort) := by
    rw [h1, ← h2]; rfl
  simp only [endCmd, post_eq, hc]

/-! ### Host writes (R8) -/

/-- A host write when no boot load and no device reset is in progress. -/
theorem hostWriteReg_writable {s : State} (h1 : s.ctl.loading = false) (h2 : s.ctl.resetBusy = false) (r : Reg)
    (data : Word) : hostWriteReg r data s = (writeReg true data s r).1 := by
  simp [hostWriteReg, writable, h1, h2]

/-- A host write while a boot load or a device reset is in progress. -/
theorem hostWriteReg_busy {s : State} (h : s.ctl.loading = true ∨ s.ctl.resetBusy = true) (r : Reg) (data : Word) :
    hostWriteReg r data s = s := by
  rcases h with h | h <;> simp [hostWriteReg, writable, h]

/-- A refused write posts 0x91 and changes nothing else. -/
theorem refuseWrite_host (src : Byte) (o : Nat) (data : Word) (s : State) :
    refuseWrite true src o data s = { s with ev := (post 0x91 src (BitVec.ofNat 32 o) data s).ev } := rfl

/-! ### The delivery engine (R123, R126, R127) -/

/-- The engine works while no device reset is busy. -/
theorem engineStep_idle {s : State} (h : s.ctl.resetBusy = false) (f : State → State) :
    engineStep f s = f s := by
  simp [engineStep, h]

/-- While a device reset is busy the engine does nothing. -/
theorem engineStep_busy {s : State} (h : s.ctl.resetBusy = true) (f : State → State) : engineStep f s = s := by
  simp [engineStep, h]

/-- An entry is made in one of three ways. -/
theorem makeEntry_cases (e : Completion) (made : State → State) (s : State) :
    (makeEntry e made s = joinBacklog e (made s) ∧ (s.eng.backlog ≠ [] ∨ ringFull s = true))
      ∨ (makeEntry e made s = postEntry e (made s) ∧ s.eng.backlog = [] ∧ ringFull s = false
          ∧ s.host.masterEn = true)
      ∨ (makeEntry e made s = s ∧ s.eng.backlog = [] ∧ ringFull s = false ∧ s.host.masterEn = false) := by
  unfold makeEntry
  by_cases h : s.eng.backlog ≠ [] ∨ ringFull s = true
  · exact .inl ⟨by rw [if_pos h], h⟩
  · rw [if_neg h]
    simp only [not_or, ne_eq, not_not, Bool.not_eq_true] at h
    cases hm : s.host.masterEn
    · exact .inr (.inr ⟨by simp, h.1, h.2, rfl⟩)
    · exact .inr (.inl ⟨by simp, h.1, h.2, rfl⟩)

/-- Posting an entry changes the producer side of the ring, the moderation and what has gone out on the bus. -/
theorem postEntry_eq (e : Completion) (s : State) :
    postEntry e s =
      { s with
        eng := s.eng.advance, irq := s.irq.report e.intReq
        bus := s.bus ++ [.completion s.eng.crAddr (e.bytes s.eng.phase s.tb.ref)] } := rfl

/-- Closing an open buffer. -/
theorem closeBuffer_open {s : State} {r : Fin 16} {b : Buffer} (why : Reason) (h : (s.route r).buf = some b)
    (hc : b.closed = none) :
    closeBuffer r why s
      = s.setRoute r { s.route r with buf := some { b with closed := some why, linger := none } } := by
  simp [closeBuffer, State.modRoute, h, Buffer.close, hc]

/-- A record in progress elsewhere. -/
theorem inProgressOn_false {s : State} {r : Fin 16} (h : ∀ p, s.eng.inProg = some p → p.route ≠ r) :
    inProgressOn s r = false := by
  unfold inProgressOn
  split
  · rename_i p hp; simpa using h p hp
  · rfl

/-- A route without an entry in the backlog. -/
theorem hasBacklog_false {s : State} {r : Fin 16} (h : ∀ c ∈ s.eng.backlog, c.route ≠ r) : hasBacklog s r = false := by
  simp only [hasBacklog, List.any_eq_false, beq_iff_eq]
  exact h

end Sys2Proof.Machine
end

