-- ==== Sys2Proof/Laws/Tick.lean ====
section
/-! SUPPORT. What taking a turn in the service order does: in a state where nothing is left to complete a command that
can still come in its tick only moves the tick's place. -/

namespace Sys2Proof.Machine

/-- Lanes with nothing left to complete are left as they are. -/
theorem settleAll_quiet (s : State) : ∀ ns : List (Fin 4), (∀ n ∈ ns, laneQuiet (s.lane n) = true) →
    ns.foldl (fun s n => settleLane n s) s = s
  | [], _ => rfl
  | n :: ns, h => by
    rw [List.foldl_cons, laneQuiet_settle (h n (by simp))]
    exact settleAll_quiet s ns (fun m hm => h m (by simp [hm]))

/-- In a quiet state nothing happens as the tick moves on. -/
theorem passTo_quiet {s : State} (h : quiet s = true) (k : Nat) : passTo k s = s := by
  simp only [quiet, Bool.and_eq_true, List.all_eq_true, Bool.not_eq_true'] at h
  have e : (allLanes.filter (fun n => decide (laneSlot n 2 < k))).foldl (fun s n => settleLane n s) s = s :=
    settleAll_quiet s _ (fun n hn => h.1 n (List.mem_filter.mp hn).1)
  unfold passTo
  rw [e]
  simp [releaseHeld, h.2]

/-- In a quiet state a command that can still come in the tick acts on that state, moved to the command's slot. -/
theorem arrive_quiet {s : State} (h : quiet s = true) (c : Instr) (ho : inOrder c s = true) :
    arrive c s = { s with pos := slot s c } := by
  simp [arrive, tickFor, ho, passTo_quiet h]

/-- The tick's place after a command arrived is the command's slot. -/
theorem arrive_pos (c : Instr) (s : State) : (arrive c s).pos = slot (tickFor c s) c := rfl

/-- A command takes its turn. -/
theorem inTurn_eq (c : Instr) (f : State → State) (s : State) : inTurn c f s = .next (f (arrive c s)) := rfl

/-- What a command that takes its turn does is its effect, on the state its turn brings about. -/
theorem acts_inTurn {c : Instr} {f : State → State} (h : ∀ s₀, exec c s₀ = inTurn c f s₀) (s : State) :
    Acts c s (f s) := by
  intro s₀ e
  rw [h, inTurn_eq, e]

/-- A command that cannot come in this tick any more acts in the next one. -/
theorem tickFor_late {c : Instr} {s : State} (h : inOrder c s = false) : tickFor c s = tick s := by
  simp [tickFor, h]

end Sys2Proof.Machine
end

