-- ==== Sys2Proof/WellFormed.lean ====
section
/-! DEFINITION. Which commands spell the step their row names. An ill-formed command is still given a
meaning (the effect the spec gives that host access); it is merely not the row's own step. -/

namespace Sys2Proof

/-- R4: the host access of these enables is refused. -/
def accessRefused (offset : BitVec 12) (bytes : BitVec 4) (multi : Bool) : Bool :=
  !(offset.toNat % 4 == 0) || !(bytes == 0xF#4) || multi

/-- R15: a read asks for 1 to 4 descriptors of 16 bytes. -/
def ReadAnswer.sized : ReadAnswer → Bool
  | .data bs => bs.length % 16 == 0 && decide (1 ≤ bs.length / 16) && decide (bs.length / 16 ≤ 4)
  | .error => true

/-- The operands of a command are those its row names. -/
def Instr.wellFormed : Instr → Bool
  | .deviceReset data => data.getLsbD 31
  | .accessError offset _ bytes multi _ => accessRefused offset bytes multi
  | .registerWrite offset _ => offset.toNat % 4 == 0
  | .laneEnable _ data => data.getLsbD 0
  | .laneDisable _ data => !data.getLsbD 0
  | .completionRingEnable data => data.getLsbD 8
  | .completionRingDisable data => !data.getLsbD 8
  | .complClear data => data.getLsbD 1
  | .descriptorReadDone _ answer => answer.sized
  | .lateResponse _ answer => answer.sized
  | .powerOnReset | .hostReset | .resetDone | .bootLoadStart | .storeOperationDone _
  | .storeOperationFail | .latchedLoRead _ | .laneConfigWrite _ _ _ | .linjWrite _ _ | .clockLost _
  | .clockRestored _ | .syncFound _ | .syncPosition _ | .polarityFlipped _ | .headerExtent _
  | .frameEnd _ | .triggerEdge _ _ | .tgcfgWrite _ _ _ | .syncEdge _ | .syncMissing | .periodicTick
  | .pulseEnd _ | .rpostWrite _ _ | .routeConfigWrite _ _ _ | .windowWrite _ _ _ | .crbaseWrite _ _
  | .crconsWrite _ | .bshedWrite _ | .bstatWrite _ | .evpop _ | .cmpmodWrite _
  | .moderationTimerExpiry | .interruptMessage | .commandUnknownOp | .nop | .routeArm | .routeStart
  | .routeStop | .routeAbort | .routeResume | .routeFlush | .matchWrite | .laneResync
  | .counterSnapshot | .epochLoadNow | .storeRead | .storeWrite | .storeLock | .storeReload | .quiesce
  | .unquiesce | .quiesced | .descriptorFetch _ | .descriptorReadTimeout _ | .bufferOpen _
  | .recordPlace | .payloadWrite _ | .lingerExpiry _ | .bufferCloseStop _ | .bufferCloseQuiesce _
  | .completionEntry _ | .cancelEntry _ | .backlogDrain | .routeDrained _ | .routeAbortDone _
  | .laneBitSampled _ _ | .injectBitFeed _ | .acceptedTransition _ _ | .commandIssue _ => true

end Sys2Proof
end

