-- ==== Sys2Proof/Tests/Slice0.lean ====
section
/-! SUPPORT. Tests: the checks of WellFormed, the manual's worked examples, one step each, and for every statement
with hypotheses a concrete state that meets them, clause by clause. -/

namespace Sys2Proof.Tests

open Sys2Proof.Machine

set_option Elab.async false

/-! ### Small states -/

/-- The state an outcome goes on in. -/
def after : Host.Outcome State Fault Refusal → State
  | .next t => t
  | _ => State.reset

/-- The state after one command. -/
def go (c : Instr) (s : State) : State := after (exec c s)

/-- An idle device after its boot load at the beginning of a tick, with six free blocks, shed level 1 and reserve
level 0. -/
def base : State :=
  { State.reset with
    ctl := { Control.reset with loading := false, resetTick := false }
    buf := { BufMgr.reset with free := [10, 11, 12, 13, 14, 15], bshed := 1, breserve := 0 }
    store := { Store.reset with job := .idle }
    pos := 0 }

/-- `base` while its boot load runs, and while a device reset is busy. -/
def loadingS : State := { base with ctl := { base.ctl with loading := true } }

/-- See `loadingS`. -/
def busyS : State := { base with ctl := { base.ctl with resetBusy := true } }

/-- `base` with lane 1, route 3 or trigger line 2 as given. -/
def withLane (l : Lane) : State := base.setLane 1 l

/-- See `withLane`. -/
def withRoute (x : Route) : State := base.setRoute 3 x

/-- See `withLane`. -/
def withTrig (t : Trig) : State := base.setTrig 2 t

/-- A command with token 7. -/
def cmd (op target : Byte) (arg0 : Word := 0) (arg1 : Word := 0) : Cmd :=
  { op := op, target := target, token := 7, arg0 := arg0, arg1 := arg1 }

/-- The state with one command in the FIFO. -/
def queued (c : Cmd) (s : State) : State := { s with cmd := { s.cmd with fifo := [c] } }

/-- The state with these events queued. -/
def withEvents (q : List Event) : State := { base with ev := { queue := q, seq := 100 } }

/-- A routine event and a loss marker. -/
def routineEv : Event := { cause := 0x20, source := 1, seq := 3, time := 4, a := 5, b := 6 }

/-- See `routineEv`. -/
def marker : Event := { cause := 0xF0, source := 0xFF, seq := 3, time := 4, a := 1, b := 4 }

/-- The newest entry of the event queue. -/
def newest (s : State) : Option Event := s.ev.queue.getLast?

/-- Cause, source and details of an event. -/
def shape (e : Event) : Byte × Byte × Word × Word := (e.cause, e.source, e.a, e.b)

/-! ### WellFormed refuses each ill-formed command -/

theorem test_wf_deviceReset : Instr.wellFormed (.deviceReset 0x7FFFFFFF) = false := by decide
theorem test_wf_accessError : Instr.wellFormed (.accessError 0x010 false 0xF false 0) = false := by decide
theorem test_wf_registerWrite : Instr.wellFormed (.registerWrite 0x012 0) = false := by decide
theorem test_wf_laneEnable : Instr.wellFormed (.laneEnable 0 0x1040) = false := by decide
theorem test_wf_laneDisable : Instr.wellFormed (.laneDisable 0 0x1041) = false := by decide
theorem test_wf_ringEnable : Instr.wellFormed (.completionRingEnable 0x006) = false := by decide
theorem test_wf_ringDisable : Instr.wellFormed (.completionRingDisable 0x106) = false := by decide
theorem test_wf_complClear : Instr.wellFormed (.complClear 0x1D) = false := by decide
theorem test_wf_readDone : Instr.wellFormed (.descriptorReadDone 0 (.data [0])) = false := by decide
theorem test_wf_lateResponse :
    Instr.wellFormed (.lateResponse 0 (.data (List.replicate 80 0))) = false := by decide
theorem test_wf_accepts : Instr.wellFormed (.accessError 0x010 false 0x7 false 0) = true := by decide

/-! ### The manual's worked examples -/

/-- R48's example: the check values of the ASCII digits 1 to 9. -/
theorem test_crc16_digits :
    crcOf 2 [0x31, 0x32, 0x33, 0x34, 0x35, 0x36, 0x37, 0x38, 0x39] = 0x29B1#32 := by decide +kernel

/-- See `test_crc16_digits`. -/
theorem test_crc32_digits :
    crcOf 4 [0x31, 0x32, 0x33, 0x34, 0x35, 0x36, 0x37, 0x38, 0x39] = 0xFC891918#32 := by decide +kernel

/-- Chapter 1's example: the pair read as it stood at the LO read. -/
theorem test_latched_read :
    (go (.latchedLoRead .ref) { base with tb := { base.tb with ref := 0x00000012FFFFFFF0 } }).hostData = 0xFFFFFFF0#32
      ∧ readWord (go (.latchedLoRead .ref) { base with tb := { base.tb with ref := 0x00000012FFFFFFF0 } }) 0x014
          = 0x12#32 := by decide +kernel

/-- Chapter 2's example: with 15 bytes held one of four is taken, its lowest, and 0x26 counts three dropped. -/
def injecting : Lane :=
  { Lane.reset with st := .search, lctl := 0x00001048, linjc := 4, fifo := List.replicate 15 0x22 }

/-- See `injecting`. -/
theorem test_inject_overflow :
    ((go (.linjWrite 1 0x33333333) (withLane injecting)).lane 1).fifo = List.replicate 15 0x22#8 ++ [0x33#8]
      ∧ (newest (go (.linjWrite 1 0x33333333) (withLane injecting))).map shape = some (0x26, 1, 3, 1) := by
  decide +kernel

/-- R27, R29: with EDGE = 0 a falling edge restarts the clock watchdog and gives no bit. -/
theorem test_edge_without_bit :
    let t := go (.laneBitSampled 1 ⟨false, true⟩) (withLane { Lane.reset with st := .search, wdog := 4095 })
    (t.lane 1).wdog = 0 ∧ (t.lane 1).histLen = 0 := by decide +kernel

/-- R29, R30: a rising edge gives the level of LnDAT, inverted by the polarity state. -/
theorem test_edge_with_bit :
    let t := go (.laneBitSampled 1 ⟨true, false⟩) (withLane { Lane.reset with st := .search, pol := true })
    (t.lane 1).hist = 1#32 ∧ (t.lane 1).histLen = 1 := by decide +kernel

/-- R28: the edge that ends NOCLOCK is not sampled, and the next active edge may fall in the same tick. -/
theorem test_restored_then_bit :
    let t := go (.laneBitSampled 1 ⟨true, true⟩) (go (.clockRestored 1) (withLane { Lane.reset with st := .noclock }))
    (t.lane 1).histLen = 1 ∧ t.tb.ref = base.tb.ref := by decide +kernel

/-- Chapter 2's example: the bytes of a word enter in ascending byte order. -/
theorem test_inject_order :
    ((go (.linjWrite 1 0x6B2840FE) (withLane { injecting with fifo := [] })).lane 1).fifo
      = [0xFE#8, 0x40#8, 0x28#8, 0x6B#8] := by decide +kernel

/-- Chapter 4's first-match example: the three entries. -/
def threeEntries : State :=
  ((base.setEntry 0 { MatchEntry.reset with valid := true, lanes := 6, tagMask := 0xFF, discard := true }).setEntry 1
      { MatchEntry.reset with valid := true, lanes := 2, tagVal := 0x40, tagMask := 0xF0, route := 3 }).setEntry 5
    { MatchEntry.reset with valid := true, lanes := 15, tagVal := 0x40, tagMask := 0xC0, route := 4 }

/-- See `threeEntries`. -/
theorem test_first_match :
    winner threeEntries 1 0x00 = some 0 ∧ winner threeEntries 1 0x47 = some 1 ∧ winner threeEntries 2 0x47 = some 5
      ∧ winner threeEntries 1 0x72 = some 5 ∧ winner threeEntries 1 0x91 = none
      ∧ winner threeEntries 3 0x00 = none := by decide +kernel

/-- Chapter 4's merging example: the outcomes of the sequence check at width 1. -/
theorem test_seq_check :
    seqJudge { MatchEntry.reset with synced := true, expected := 0x20 } 8 0x20 = .none
      ∧ seqJudge { MatchEntry.reset with synced := true, expected := 0x21 } 8 0x20 = .back
      ∧ seqJudge { MatchEntry.reset with synced := true, expected := 0x23 } 8 0x25 = .gap := by decide

/-- Chapter 5's block-need example. -/
theorem test_block_need :
    blockNeed (recordLen { Route.reset with rcfg := 0x3000 } { Lane.reset with lfmt := 0x3340 } false 4072) = 2
      ∧ blockNeed (recordLen { Route.reset with rcfg := 0x3000 } { Lane.reset with lfmt := 0x3340 } true 4072) = 3
      ∧ recordLen { Route.reset with rcfg := 0x1000 } { Lane.reset with lfmt := 0x3340 } false 4072 = 4096 := by
  decide

/-- Chapter 6's example: the details of 0x50 for a route 3 started by line 1 with three records queued. -/
def rec1 (chain : List Nat) : Record :=
  { chain := chain, length := 20, flags := 2, lane := 1, mIdx := 0xFF, seq := 0, serial := 40, flen := 4 }

/-- See `rec1`. -/
theorem test_trigger_start :
    (newest (startRoute 3 (some 1) (withRoute { Route.reset with st := .armed, queue := [rec1 [1], rec1 [2], rec1 [3]] }))).map
      shape = some (0x50, 3, 0x0101, 0x00010003) := by decide +kernel

/-- Chapter 7's fence window example. -/
theorem test_window :
    (descEntry ⟨0x04800000, 0x1000, 0⟩ ⟨0xF0000000, 0xFFFFFFFF, 0x20000000, 0x4⟩ 0).fault = none
      ∧ descEffective ⟨0x04800000, 0x1000, 0⟩ ⟨0xF0000000, 0xFFFFFFFF, 0x20000000, 0x4⟩ = 0x0000000424800000#64
      ∧ (descEntry ⟨0x0FFFF800, 0x1000, 0⟩ ⟨0xF0000000, 0xFFFFFFFF, 0x20000000, 0x4⟩ 0).fault = some .fence := by
  decide

/-- Chapter 7's delivery example: the first buffer's completion entry. -/
def bufferA : Buffer :=
  { idx := 0, tag := 0x0A00, intReq := false, length := 4096, address := 0x1000, used := 3144, count := 3
    pretrig := false, fcsBad := false, seq := false, mark := false, linger := none, closed := some .full }

/-- See `bufferA`. -/
theorem test_completion_words :
    (bufferEntry 1 bufferA .full).word0 true = 0x81000C48#32 ∧ (bufferEntry 1 bufferA .full).word1 = 0x00000A00#32
      ∧ (bufferEntry 1 bufferA .full).word2 = 0x3#32 := by decide

/-- Chapter 8's merging example: lane 2's frame takes the lines of both marks and the earlier time. -/
theorem test_mark_merge :
    ({ Lane.reset with marks := #v[some 0x1000, none, none, some 0x1500] } : Lane).markMask = 9#4
      ∧ ({ Lane.reset with marks := #v[some 0x1000, none, none, some 0x1500] } : Lane).markTime = 0x1000#64
      ∧ (({ Lane.reset with st := .locked, marks := #v[some 0x1000, none, none, some 0x1500] } : Lane).markBy 0 0x1700).marks
          = #v[some 0x1000, none, none, some 0x1500]
      ∧ ((Lane.reset).markBy 3 0x1500).marks = Vector.replicate 4 none := by decide +kernel

/-- Chapter 9's flood example: 47 entries, then five events. -/
def flood : State :=
  post 0x74 0 0 0 (post 0x52 0 0 0 (post 0x30 0 0 0 (post 0x23 0 0 0 (post 0x20 0 0 0
    (withEvents (List.replicate 47 routineEv))))))

/-- See `flood`. -/
theorem test_flood :
    flood.ev.queue.length = 51 ∧ flood.ev.seq = 105#16
      ∧ (flood.ev.queue.drop 47).map (fun e => (e.cause, e.seq, e.a, e.b))
          = [(0x20, 100, 0, 0), (0xF0, 101, 2, 0xC), (0x52, 103, 0, 0), (0xF0, 104, 1, 0x80)] := by decide +kernel

/-- Chapter 9's flood example, later: 62 entries and three essential events. -/
theorem test_flood_full :
    ((post 0x52 0 0 0 (post 0x52 0 0 0 (post 0x52 0 0 0 (withEvents (List.replicate 62 routineEv))))).ev.queue.drop 62).map
      (fun e => (e.cause, e.a)) = [(0x52, 0), (0xF0, 2)] := by decide +kernel

/-- Chapter 10's batch example: the details of the two overflows. -/
theorem test_issue_overflow :
    (newest (go (.commandIssue 0x00090011)
        { base with cmd := { base.cmd with fifo := List.replicate 8 (cmd 0x20 0) } })).map (fun e => (e.cause, e.a))
      = some (0x92, 0x00001109) := by decide +kernel

/-! ### Witnesses: for each statement with hypotheses, states and operands that meet them, clause by clause

`live s` is the premise of every host write (R8). Each theorem is named after its statement. -/

/-- No boot load and no device reset is in progress. -/
abbrev live (s : State) : Prop := s.ctl.loading = false ∧ s.ctl.resetBusy = false

/-- Every slot lies behind the beginning of the tick. -/
theorem slot_pos (c : Instr) (s : State) : 0 < slot s c := by
  cases c <;> simp only [slot, edgeSlot, payloadSlot] <;> (repeat' split) <;>
    (simp [slotKey, laneSlot, engineStart] at *; try omega)

/-- `Acts c s t` speaks of every state of the kind below: at the beginning of a tick a quiet state is moved to the
command's slot, and nothing else changes. The states of the witnesses stand at that beginning. -/
theorem arrive_base {s : State} (h : s.pos = 0) (q : quiet s = true) (c : Instr) :
    arrive c s = { s with pos := slot s c } :=
  arrive_quiet q c (by simp [inOrder, h, slot_pos])

/-- The same for a command of lane n, or one ahead of it, with occurrences due on lanes from n on. -/
theorem arrive_lane {s : State} (h : s.pos = 0) (c : Instr) (n : Fin 4) (hs : slot s c ≤ laneSlot n 2)
    (q : ∀ m, m < n → laneQuiet (s.lane m) = true) : arrive c s = { s with pos := slot s c } := by
  have ho : inOrder c s = true := by simp [inOrder, h, slot_pos]
  have he : ¬engineStart ≤ slot s c := by
    have h1 : laneSlot n 2 < engineStart := by
      have := n.isLt
      simp only [engineStart, laneSlot, slotKey]; omega
    exact Nat.not_le.mpr (Nat.lt_of_le_of_lt hs h1)
  have hp : passTo (slot s c) s = s := by
    unfold passTo
    rw [settleAll_quiet s _ (fun m hm => q m (by
      have h1 : laneSlot m 2 < slot s c := of_decide_eq_true (List.mem_filter.mp hm).2
      have h2 := Nat.lt_of_lt_of_le h1 hs
      simp only [laneSlot, slotKey] at h2
      omega))]
    simp [he]
  simp [arrive, tickFor, ho, hp]

/-- With no record in progress none is the route's. -/
theorem no_record {s : State} (h : s.eng.inProg = none) (r : Fin 16) : ∀ p, s.eng.inProg = some p → p.route ≠ r := by
  intro p hp; rw [h] at hp; cases hp

/-- With an empty backlog no entry is the route's. -/
theorem no_entry {s : State} (h : s.eng.backlog = []) (r : Fin 16) : ∀ c ∈ s.eng.backlog, c.route ≠ r := by
  intro c hc; rw [h] at hc; cases hc

theorem witness_StepRunsTheFrontCommand : ({ base with pending := [.nop, .quiesce] } : State).pending = .nop :: [.quiesce] := rfl

/-- A body of a FIXED-mode lane at its header extent, and at its frame end. -/
def atHeader : Assembly :=
  { phase := .body, nbytes := 1, nbits := 0, cur := 0, len := some 4, hdrDone := false, fcs := 0xFFFF, delay := []
    head := [0x47] }

/-- See `atHeader`. -/
def atEnd : Assembly := { atHeader with nbytes := 4, hdrDone := true }

/-- A body with one bit to come of its byte 2. -/
def inBody : Assembly := { atEnd with nbytes := 2, nbits := 7, cur := 0x55 }

/-- A frame that took the mark of line 0. -/
def markedFrame (fate : Fate) : FrameCtx :=
  { stamp := 5, markMask := 1, markTime := 9, inv := false, coast := false, fate := fate }

/-- What a frame admitted to route 3 with one block holds. -/
def ticket3 : Ticket :=
  { route := 3, mIdx := 0xFF, seq := 0, gen := none, seqChk := false, chain := [7], pretrig := false }

/-- A locked lane on the line, FIXLEN 4, V = 3, M = 3, delivering to its default route 3. -/
def lockedLane (a : Assembly) (f : Option FrameCtx) : Lane :=
  { Lane.reset with st := .locked, lctl := 0x1000, lfmt := 0x00043300, lhdr := 0x30000000, asm := some a, frame := f }

/-- A state whose interrupt request rises in MESSAGE mode, with MASTER_EN as given. -/
def rising (masterEn held : Bool) : State :=
  { base with
    host := { base.host with intMode := true, intMaster := true, masterEn := masterEn }
    irq := { base.irq with tick := true, inten := 8, held := held, modTimer := some 1024, cmpTimer := 1 } }

theorem witness_EmptyQueueEndsTheTick :
    (base.pending = [] ∧ quiet base = true ∧ quiet (withLane (lockedLane atEnd none)) = false)
      ∧ (inOrder .nop base = true ∧ inOrder .nop { base with pos := 6000 } = false)
      ∧ (loadingS.ctl.loading = true ∧ base.ctl.loading = false)
      ∧ ((rising true true).irq.held = true ∧ (rising true true).host.masterEn = true ∧ (rising true false).irq.held = false
          ∧ (rising false true).host.masterEn = false)
      ∧ ((base.lane 1).headerDue = false ∧ (base.lane 1).frameEndDue = false ∧ (base.lane 1).positionDue = false
          ∧ (base.lane 1).cmpDue = false) := by decide +kernel

/-- A full event queue that ends with a loss marker. -/
def fullEvents : State := withEvents (List.replicate 63 routineEv ++ [marker])

theorem witness_StepKeepsTheEventQueueAndFifo :
    (EventsOk fullEvents ∧ fullEvents.ev.queue.length = 64 ∧ ∃ t, step fullEvents = .next t)
      ∧ (FifoOk { base with cmd := { base.cmd with fifo := List.replicate 8 (cmd 0 0) } }
          ∧ ∃ t, step { base with cmd := { base.cmd with fifo := List.replicate 8 (cmd 0 0) } } = .next t)
      ∧ (SlbOk { base with store := { base.store with slb := 256 } } ∧ SlbOk base ∧ ∃ t, step base = .next t)
      ∧ ((∀ rest, ({ base with pending := [.hostReset] } : State).pending ≠ .powerOnReset :: rest)
          ∧ ∃ t, step { base with pending := [.hostReset] } = .next t) :=
  ⟨⟨⟨by decide +kernel, fun _ => ⟨marker, by decide +kernel, rfl⟩⟩, by decide +kernel, _, rfl⟩,
    ⟨by show (List.replicate 8 (cmd 0 0)).length ≤ 8; decide, _, rfl⟩,
    ⟨⟨by decide, by decide⟩, ⟨by decide, by decide⟩, _, rfl⟩,
    ⟨fun rest h => by simp at h, _, rfl⟩⟩

/-- Block 0 in the chain of a queued record, every other block free. -/
def oneRecord : State :=
  { withRoute { Route.reset with queue := [rec1 [0]] } with
    buf := { BufMgr.reset with free := List.range' 1 16383 } }

theorem witness_StepKeepsEveryBlockInOnePlace : BlocksOk oneRecord ∧ ∃ t, step oneRecord = .next t := by
  refine ⟨⟨by decide +kernel, fun h => by simp [oneRecord, withRoute, base] at h; exact absurd h (by decide), ?_⟩, _, rfl⟩
  have h : usedBlocks oneRecord = [0] := by decide +kernel
  rw [h]
  exact List.perm_append_singleton 0 (List.range' 1 16383)

theorem witness_StepKeepsMemoryCanonical :
    MemOk { base with buf := { base.buf with mem := [(3, 1), (33554431, 2)] } } ∧ ∃ t, step base = .next t :=
  ⟨rfl, _, rfl⟩

/-- A completion entry of route 3. -/
def entry3 : Completion := bufferEntry 3 bufferA .full

/-- A route with two entries cached and a read of two outstanding. -/
def fetching : Route :=
  { Route.reset with
    st := .running, rcfg := 0x00030000, rpost := 4, rfetch := 4
    cache := [⟨0, none, some ⟨0x0A00, false, 4096, 0x1000⟩⟩, ⟨1, some .error, none⟩]
    read := some { start := 2, n := 2, age := 31250, stale := false } }

theorem witness_StepKeepsCachesAndBacklog :
    (CachesOk (withRoute fetching) ∧ ∃ t, step (withRoute fetching) = .next t)
      ∧ BacklogOk { base with eng := { base.eng with backlog := [entry3] } }
      ∧ ∃ t, step { base with eng := { base.eng with backlog := [entry3] } } = .next t :=
  ⟨⟨by unfold CachesOk; decide +kernel, _, rfl⟩, ⟨by decide +kernel, by decide +kernel⟩, _, rfl⟩

theorem witness_StepKeepsFieldsLegal : ConfigOk base ∧ ∃ t, step base = .next t :=
  ⟨⟨by decide +kernel, by decide +kernel, by decide +kernel, by decide⟩, _, rfl⟩

theorem witness_OnlyEpochLoadsSetTheCounter :
    (mayLoadCounter .hostReset = false ∧ ∃ t, exec .hostReset base = .next t)
      ∧ inOrder .hostReset base = true ∧ inOrder .hostReset { base with pos := 1000 } = false :=
  ⟨⟨rfl, _, rfl⟩, by decide, by decide⟩

theorem witness_TransactionsNeedTheEngineAndMasterEn :
    (base.host.masterEn = false ∧ ∃ t, step { base with pending := [.payloadWrite 1] } = .next t)
      ∧ (mayIssue .recordPlace = false ∧ ∃ t, exec .recordPlace base = .next t) := ⟨⟨rfl, _, rfl⟩, rfl, _, rfl⟩

theorem witness_HostWritesIgnoredWhileBusy :
    isHostWrite (.evpop 0) = true ∧ isHostWrite (.accessError 0 true 0xF false 0) = true
      ∧ loadingS.ctl.loading = true ∧ busyS.ctl.resetBusy = true := ⟨rfl, rfl, rfl, rfl⟩

theorem witness_RegisterMapRoundTrip : regAt 0xDFC = some (.snap 127) ∧ regAt 0x000 = some .devid := by decide

theorem witness_PostQueuesMergesOrMarks :
    ((withEvents (List.replicate 47 routineEv)).ev.queue.length < 48 ∧ essential 0x20 = false)
      ∧ ((withEvents (List.replicate 62 routineEv)).ev.queue.length < 63 ∧ essential 0x52 = true)
      ∧ (48 ≤ (withEvents (List.replicate 47 routineEv ++ [marker])).ev.queue.length ∧ marker.isMarker = true)
      ∧ (48 ≤ (withEvents (List.replicate 62 routineEv ++ [routineEv])).ev.queue.length
          ∧ (withEvents (List.replicate 62 routineEv ++ [routineEv])).ev.queue.length < 64
          ∧ routineEv.isMarker = false) := by decide +kernel

theorem witness_DeviceResetClearsTheDatapath : live base ∧ (0x80000000#32).getLsbD 31 = true := by decide

theorem witness_ResetDoneWaitsForOldReads :
    (busyS.ctl.resetBusy = true ∧ busyS.ctl.oldReads = [])
      ∧ ({ busyS with ctl := { busyS.ctl with oldReads := [⟨3, 2, 31250⟩] } } : State).ctl.oldReads ≠ [] := by
  decide +kernel

/-- The store controller in a job, its operation on a word at an age. -/
def storing (job : StoreJob) (word age : Nat) : State :=
  queued (cmd 0x40 0) { base with store := { base.store with op := some { word := word, age := age }, job := job } }

theorem witness_StoreOperationDoneMovesOn :
    ((storing (.bootIdentity []) 62 624999).store.op = some ⟨62, 624999⟩
        ∧ (storing (.bootIdentity []) 62 624999).store.job = .bootIdentity [])
      ∧ ((storing (.bootPreset []) 126 0).store.op = some ⟨126, 0⟩ ∧ (storing (.reload []) 126 0).store.job = .reload [])
      ∧ (storing (.bootIdentity [1]) 63 0).store.job = .bootIdentity [1]
      ∧ ((storing .cmdRead 200 0).cmd.fifo = cmd 0x40 0 :: [] ∧ (storing .cmdRead 200 0).store.job = .cmdRead)
      ∧ (storing (.cmdWrite 9) 200 0).store.job = .cmdWrite 9
      ∧ (State.reset.ctl.loading = true ∧ State.reset.store.job = .bootWait ∧ State.reset.ctl.resetTick = true)
      ∧ ((tick State.reset).ctl.loading = true ∧ (tick State.reset).store.job = .bootWait
          ∧ (tick State.reset).ctl.resetTick = false) := by decide +kernel

/-- The words of a preset list whose header is `h`, all but the last of its 64 being 0 behind it. -/
def listOf (h : Word) : List Word := h :: List.replicate 62 0

/-- The code an ending boot load judges a list by, in the statement's own words. -/
def codeOf (list : List Word) : Nat :=
  if (list.getD 0 0).toNat / 65536 ≠ 0x5052 then 1
  else if 31 < (list.getD 0 0).toNat % 256 then 2
  else if list.sum ≠ 0 then 3
  else 0

/-- No register stands at an offset that is not a multiple of 4 (R5). -/
theorem regOffset_aligned (r : Reg) : regOffset r % 4 = 0 := by
  cases r with
  | lane n w => cases w <;> simp only [regOffset, laneRegOffset] <;> omega
  | trig n w => cases w <;> simp only [regOffset, trigRegOffset] <;> omega
  | window w h => cases h <;> simp only [regOffset] <;> omega
  | crbase h => cases h <;> rfl
  | route q w => cases w <;> simp only [regOffset] <;> omega
  | _ => simp only [regOffset] <;> omega

theorem witness_LoadsEndWithTheirOutcome :
    ((storing (.bootPreset (listOf 0x50520000)) 127 0).store.op = some ⟨127, 0⟩
        ∧ (storing (.reload (listOf 0x50520000)) 127 0).store.job = .reload (listOf 0x50520000)
        ∧ (storing (.reload (listOf 0x50520000)) 127 0).cmd.fifo = cmd 0x40 0 :: [])
      ∧ (codeOf (listOf 0x50510000 ++ [0]) = 1 ∧ codeOf (listOf 0x50520020 ++ [0]) = 2
        ∧ codeOf (listOf 0x5052001F ++ [0]) = 3 ∧ codeOf (listOf 0x50520000 ++ [0xAFAE0000]) = 0)
      ∧ (∀ r, presettable r = true → (0x002#32).toNat ≠ regOffset r)
      ∧ (presettable .bshed = true ∧ (0x284#32).toNat = regOffset .bshed ∧ (∀ n, (base.lane n).frame = none))
      ∧ (presettable .devctl = true ∧ (0x004#32).toNat = regOffset .devctl ∧ (0x7FFFFFFF#32).getLsbD 31 = false)
      ∧ (storing (.bootIdentity []) 0 625000).store.op = some ⟨0, 625000⟩
      ∧ (storing (.bootPreset []) 64 625000).store.job = .bootPreset []
      ∧ (storing .cmdRead 0 625000).cmd.fifo = cmd 0x40 0 :: []
      ∧ (storing (.reload []) 64 625000).store.job = .reload [] := by
  refine ⟨by decide +kernel, by decide +kernel, fun r _ h => ?_, by decide +kernel, by decide, by decide, by decide,
    by decide, by decide⟩
  have := regOffset_aligned r
  rw [← h] at this
  exact absurd this (by decide)

theorem witness_StoreCommandsStart :
    (Ready (queued (cmd 0x40 0 255) base) (cmd 0x40 0 255) [] ∧ (cmd 0x40 0 255).target = 0)
      ∧ Ready (queued (cmd 0x41 0 64 5) base) (cmd 0x41 0 64 5) []
      ∧ Ready (queued (cmd 0x42 0 256) base) (cmd 0x42 0 256) []
      ∧ (Ready (queued (cmd 0x43 0) base) (cmd 0x43 0) [] ∧ (∀ n, (base.lane n).st = .off)
          ∧ ∀ r, (base.route r).st = .disabled)
      ∧ (Ready (queued (cmd 0x43 0) (withLane injecting)) (cmd 0x43 0) [] ∧ ∃ n, ((withLane injecting).lane n).st ≠ .off)
      ∧ ∃ r, ((withRoute fetching).route r).st ≠ .disabled := by decide +kernel

theorem witness_RefusedAccessIsReported :
    (0x012#12).toNat % 4 ≠ 0 ∧ (0x7#4 : BitVec 4) ≠ 0xF#4 ∧ live base ∧ loadingS.ctl.loading = true
      ∧ busyS.ctl.resetBusy = true := by decide

theorem witness_RegisterReadsAndWrites :
    ((0x30#12 : BitVec 12).toNat % 4 = 0 ∧ regAt (0x30#12 : BitVec 12).toNat = none
        ∧ regAt (0xFFC#12 : BitVec 12).toNat = none)
      ∧ (regAt (0xDFC#12 : BitVec 12).toNat = some (.snap 127) ∧ isReadOnly (.snap 127) = true)
      ∧ (regAt (0x284#12 : BitVec 12).toNat = some .bshed ∧ plainMask .bshed = some 0x3FFF ∧ live base)
      ∧ (∀ pair, regAt (0x284#12 : BitVec 12).toNat ≠ some (latchedLo pair))
      ∧ ((withEvents [routineEv]).ev.queue = routineEv :: [] ∧ base.ev.queue = [])
      ∧ ((queued (cmd 0x00 0) base).cmd.fifo = cmd 0x00 0 :: [] ∧ base.cmd.fifo = [])
      ∧ ((base.route 15).rcsel.toNat = (0 : Fin 12).val ∧ 12 ≤ ({ Route.reset with rcsel := 12 } : Route).rcsel.toNat)
      ∧ ((base.cmd.snapPage = true ↔ 8 ≤ (7 : Fin 16).val)
          ∧ (({ CmdPort.reset with snapPage := true } : CmdPort).snapPage = true ↔ 8 ≤ (8 : Fin 16).val))
      ∧ (0x18#32).getLsbD 1 = false :=
  ⟨by decide, by decide, by decide, fun pair => by
    rw [show regAt (0x284#12 : BitVec 12).toNat = some .bshed by decide]; cases pair <;> simp [latchedLo], by decide,
    by decide +kernel, by decide +kernel, by decide +kernel, by decide⟩

theorem witness_LaneConfigurationWrites :
    (LaneReg.lfmt ≠ .lctl ∧ live base ∧ (base.lane 1).st = .off ∧ live (withLane injecting)
        ∧ ((withLane injecting).lane 1).st ≠ .off)
      ∧ ((0x1050#32).getLsbD 0 = false ∧ (0x1049#32).getLsbD 0 = true ∧ injecting.frame = none)
      ∧ (laneRegValue .lctl injecting.lctl 0x1049 = injecting.lctl ∧ laneRegValue .lctl injecting.lctl 0x1049 ≠ 0x1040) := by
  decide +kernel

/-- The lane the enable statement speaks of, for a write to lane 1. -/
def enabling (l : Lane) (data : Word) : Lane := { l with lctl := laneRegValue .lctl l.lctl data }

theorem witness_LaneEnableRunsTheCheck :
    live base ∧ (base.lane 1).st = .off ∧ (0x1041#32).getLsbD 0 = true
      ∧ (enabling { Lane.reset with lfmt := 0x00043300 } 0x1041).checkCode = 0
      ∧ (enabling Lane.reset 0x1041).checkCode = 3
      ∧ (enabling { Lane.reset with lfmt := 0x10003303 } 0x1041).checkCode = 1 := by decide +kernel

theorem witness_LaneDisableAndClockLoss :
    (live (withLane (lockedLane atEnd (some (markedFrame (.admitted ticket3)))))
        ∧ ((withLane (lockedLane atEnd (some (markedFrame (.admitted ticket3))))).lane 1).st ≠ .off
        ∧ (0x1040#32).getLsbD 0 = false)
      ∧ (((withLane { Lane.reset with st := .search, wdog := 4096 }).lane 1).st ≠ .off
          ∧ ((withLane { Lane.reset with st := .search, wdog := 4096 }).lane 1).st ≠ .noclock
          ∧ ((withLane { Lane.reset with st := .search, wdog := 4096 }).lane 1).inject = false
          ∧ 4096 ≤ ((withLane { Lane.reset with st := .search, wdog := 4096 }).lane 1).wdog)
      ∧ ((withLane { Lane.reset with st := .noclock }).lane 1).st = .noclock ∧ base.ctl.resetBusy = false := by
  decide +kernel

theorem witness_InjectAndSampledBits :
    ((injecting.st ≠ .off ∧ injecting.inject = true ∧ 16 - injecting.fifo.length < injecting.linjc.toNat)
        ∧ ({ injecting with linjc := 1 } : Lane).linjc.toNat ≤ 16 - injecting.fifo.length ∧ Lane.reset.inject = false
        ∧ Lane.reset.st = .off)
      ∧ (({ Lane.reset with st := .search } : Lane).st ≠ .off ∧ Lane.reset.lctl.getLsbD 1 = false)
      ∧ (base.ctl.resetBusy = false ∧ injecting.cmpDue = false ∧ injecting.asm = none ∧ injecting.flipDue = false
          ∧ injecting.st = .search ∧ injecting.feed = none ∧ injecting.fifo = 0x22 :: List.replicate 14 0x22)
      ∧ (({ injecting with feed := some (0x22, 7) } : Lane).feed = some (0x22, 7) ∧ (true ≠ Lane.reset.lctl.getLsbD 1))
      ∧ ((lockedLane { atHeader with phase := .sync, nbits := 15 } none).syncLen = 16
          ∧ (lockedLane { atHeader with phase := .sync, nbits := 15 } none).flipDue = false)
      ∧ ((lockedLane inBody (some (markedFrame .dropped))).headerDue = false
          ∧ (lockedLane inBody (some (markedFrame .dropped))).frameEndDue = false
          ∧ (lockedLane inBody (some (markedFrame .dropped))).cmpDue = false ∧ inBody.nbits = 7 ∧ inBody.len = some 4
          ∧ (markedFrame .dropped).fate ≠ .admitted ticket3 ∧ (withLane (lockedLane inBody none)).buf.mem.wf = true)
      ∧ (chainAddr ticket3.chain (16 + 8 * bit (markedFrame .dropped).marked + inBody.nbytes) = some (7 * 2048 + 26)
          ∧ chainAddr ticket3.chain 2048 = none) := by
  decide +kernel

/-- A lane in SEARCH whose full history holds its sync word, or not. -/
def searching (hist : Word) (v : Word) : Lane :=
  { Lane.reset with st := .search, lsync := 0xEB90, lfmt := 0x00043000 ||| v <<< 8, hist := hist, histLen := 16, cmpDue := true }

/-- A lane in VERIFY inside a body whose last bit ended the dwell. -/
def verifying : Lane := { searching 0xEB91 3 with st := .verify, cmpDue := false, dwellEnd := true, asm := some inBody }

theorem witness_SearchFindsSyncOrFlips :
    ((searching 0xEB90 3).cmpDue = true ∧ (searching 0xEB90 3).matchesSync = true ∧ (searching 0xEB90 3).verifyGoal ≠ 1)
      ∧ ((searching 0xEB90 1).matchesSync = true ∧ (searching 0xEB90 1).verifyGoal = 1)
      ∧ (searching 0xEB91 3).matchesSync = false
      ∧ (({ Lane.reset with st := .search, dwell := 65536, dwellEnd := true } : Lane).polMode = 0
          ∧ ({ Lane.reset with st := .search, dwell := 65536, dwellEnd := true } : Lane).inject = false)
      ∧ (verifying.st = .verify ∧ verifying.dwellEnd = true ∧ verifying.polMode = 0 ∧ verifying.inject = false
          ∧ verifying.headerDue = false ∧ verifying.frameEndDue = false ∧ verifying.positionDue = false)
      ∧ (({ verifying with asm := some { inBody with phase := .sync, nbits := 16 } } : Lane).positionDue = true
          ∧ ({ verifying with asm := some { inBody with phase := .sync, nbits := 16 } } : Lane).matchesSync = false)
      ∧ (let l : Lane := { searching 0xEB90 1 with dwellEnd := true }
        l.st = .search ∧ l.polMode = 0 ∧ l.inject = false ∧ l.cmpDue = true ∧ l.asm = none ∧ l.matchesSync = true
          ∧ l.verifyGoal = 1)
      ∧ ((lockedLane inBody none).st ≠ .search ∧ (lockedLane inBody none).st ≠ .verify) := by
  decide +kernel

/-- A lane at an expected sync position with its history, its state, its miss count and its verify count. -/
def atSync (st : LaneState) (hist : Word) (miss verify : Nat) : Lane :=
  { searching hist 3 with
    st := st, cmpDue := false, missCnt := miss, verifyCnt := verify
    asm := some { atEnd with phase := .sync, nbits := 16 } }

theorem witness_SyncPositionHoldsCoastsOrLoses :
    ((atSync .locked 0xEB90 0 3).positionDue = true ∧ (atSync .locked 0xEB90 0 3).matchesSync = true)
      ∧ (atSync .coast 0xEB90 1 3).matchesSync = true
      ∧ ((atSync .locked 0xEB91 0 3).matchesSync = false ∧ 1 < (atSync .locked 0xEB91 0 3).coastLimit)
      ∧ (atSync .coast 0xEB91 1 3).missCnt + 1 < (atSync .coast 0xEB91 1 3).coastLimit
      ∧ (atSync .coast 0xEB91 2 3).coastLimit ≤ (atSync .coast 0xEB91 2 3).missCnt + 1
      ∧ ({ atSync .locked 0xEB91 0 3 with lfmt := 0x00041300 } : Lane).coastLimit ≤ 1
      ∧ ({ atSync .locked 0xEB91 0 3 with lfmt := 0x00041300 } : Lane).matchesSync = false
      ∧ (atSync .verify 0xEB91 0 1).matchesSync = false
      ∧ ((atSync .verify 0xEB90 0 1).matchesSync = true
          ∧ (atSync .verify 0xEB90 0 1).verifyCnt + 1 < (atSync .verify 0xEB90 0 1).verifyGoal)
      ∧ (atSync .verify 0xEB90 0 2).verifyGoal ≤ (atSync .verify 0xEB90 0 2).verifyCnt + 1 := by decide +kernel

/-- A LENGTH-mode lane with a one-byte length field at byte 0. -/
def lengthLane (b : Byte) : Lane :=
  { lockedLane { atHeader with len := none, head := [b] } (some (markedFrame .undecided)) with
    lfmt := 0x00003310, lhdr := 0x30010000 }

theorem witness_LengthErrorDropsTheBody :
    (lengthLane 3).asm = some { atHeader with len := none, head := [3] } ∧ (lengthLane 3).headerDue = true
      ∧ (lengthLane 3).lengthMode = true
      ∧ (beNat ((([3] : List Byte).drop (lengthLane 3).lenOff).take (lengthLane 3).lenWidth) : Int)
          + (lengthLane 3).lenAdjust < 4
      ∧ ¬(beNat ((([4] : List Byte).drop (lengthLane 4).lenOff).take (lengthLane 4).lenWidth) : Int)
          + (lengthLane 4).lenAdjust < 4 := by decide +kernel

/-- A locked lane 1 at the header extent of a marked frame, its default route 3 as given, two blocks free. -/
def classifying (x : Route) : State :=
  { (withRoute x).setLane 1 (lockedLane atHeader (some (markedFrame .undecided))) with
    buf := { base.buf with free := [5, 9], bshed := 1 } }

/-- An ARMED route 3 holding the two given chains in records, with quota Q and pre-trigger limit P. -/
def armedWith (Q P : Word) (a b : List Nat) : Route :=
  { Route.reset with st := .armed, rquota := Q, rpretrig := P, queue := [rec1 a, rec1 b] }

/-- The blocks the oldest j records of a route hold. -/
def oldest (x : Route) (j : Nat) : List Nat := (x.queue.take j).flatMap Record.chain

/-- An entry for lane 1 and tags 4x. -/
def entry4x (discard : Bool) : MatchEntry :=
  { MatchEntry.reset with valid := true, lanes := 2, tagVal := 0x40, tagMask := 0xF0, route := 3, discard := discard }

theorem witness_ClassificationAndAdmission :
    ((lockedLane atHeader (some (markedFrame .undecided))).headerDue = true
        ∧ (lockedLane atHeader (some (markedFrame .undecided))).lengthMode = false
        ∧ (lockedLane atHeader (some (markedFrame .undecided))).fixLen = 4
        ∧ (lockedLane atHeader (some (markedFrame .undecided))).defDiscard = false
        ∧ (lockedLane atHeader (some (markedFrame .undecided))).defRoute = 3
        ∧ (∀ i, ¬((classifying Route.reset).entry i).valid = true)
        ∧ ({ lockedLane atHeader none with lctl := 0x1040 } : Lane).defDiscard = true)
      ∧ ((lengthLane 4).headerDue = true ∧ (lengthLane 4).lengthMode = true ∧ (lengthLane 4).hdrExtent ≤ 4
        ∧ (lengthLane 4).fcsLen < 4
        ∧ ((4 : Nat) : Int) = (beNat ((([4] : List Byte).drop (lengthLane 4).lenOff).take (lengthLane 4).lenWidth) : Int)
            + (lengthLane 4).lenAdjust)
      ∧ ((0x47#8 &&& (entry4x true).tagMask) = ((entry4x true).tagVal &&& (entry4x true).tagMask)
        ∧ (entry4x true).lanes.getLsbD 1 = true ∧ (entry4x true).discard = true ∧ (entry4x false).discard = false)
      ∧ (({ Route.reset with st := .armed } : Route).pretrigLimit = 0 ∧ Route.reset.st = .disabled
        ∧ ({ base.ctl with quiescing := true } : Control).quiescing = true ∧ base.ctl.quiesced = false)
      ∧ blockNeed (16 + 8 + 4) = 1
      ∧ (let x := armedWith 1 9 [1] [2, 3]
         x.pretrigLimit ≠ 0 ∧ held (classifying x) 3 = 3
          ∧ (∀ i, i < 2 → x.quota + (oldest x i).length < 3 + 1) ∧ 3 + 1 ≤ x.quota + (oldest x 2).length)
      ∧ (let x := armedWith 0 9 [1] [2, 3]
         (∀ i, i < 2 → x.quota + (oldest x i).length < 3 + 1) ∧ ¬3 + 1 ≤ x.quota + (oldest x 2).length)
      ∧ ((classifying (armedWith 4 9 [1] [2, 3])).buf.free.length + 0 < 2 + 1
        ∧ ¬(classifying (armedWith 4 9 [1] [2, 3])).buf.free.length + 0 < 1 + 1)
      ∧ (let x := armedWith 9 2 [1] [2]
         let u := classifying x
         (∀ i, 0 ≤ i → i < 1 → x.pretrigLimit ≤ 2 - i + framesFor u 3) ∧ 2 - 1 + framesFor u 3 < x.pretrigLimit)
      ∧ (let x : Route := { Route.reset with st := .running, rbudget := 1 }
         x.budget ≠ 0 ∧ x.rbcnt + 1 = x.budget ∧ held (classifying x) 3 + 1 ≤ x.quota)
      ∧ ((classifying Route.reset).buf.mem.wf = true ∧ atHeader.head.length ≤ 16) := by
  refine ⟨by decide +kernel, by decide +kernel, by decide, by decide, by decide, ?_⟩
  decide +kernel

/-- A ticket of entry 2 with the given sequence value, and entry 2 expecting 0x20, lane 0 with a one-byte field. -/
def seqTicket (v : BitVec 16) : Ticket := { ticket3 with mIdx := 2, gen := some 0, seqChk := true, seq := v }

/-- See `seqTicket`. -/
def expecting (synced : Bool) : State :=
  (base.setLane 0 { Lane.reset with lhdr := 0x100 }).setEntry 2
    { MatchEntry.reset with valid := true, synced := synced, expected := 0x20 }

/-- The distance of a value from 0x20 at width 8, in the statement's own words. -/
def distance (v : BitVec 16) : Nat := (v.toNat + 2 ^ 8 - (0x20#16).toNat % 2 ^ 8) % 2 ^ 8

theorem witness_FrameEndJudgesTheFrame :
    ((lockedLane atEnd (some (markedFrame (.admitted ticket3)))).frameEndDue = true
        ∧ (lockedLane atEnd none).frameEndDue = true ∧ ticket3.chain ≠ []
        ∧ MemOk (withLane (lockedLane atEnd (some (markedFrame (.admitted ticket3)))))
        ∧ fcsVerdict (lockedLane atEnd none).fcsLen atEnd ≠ .bad
        ∧ (∀ k, (markedFrame .withdrawn).fate ≠ .admitted k))
      ∧ (fcsVerdict 2 { atEnd with fcs := 0x29B1, delay := [0x29, 0xB0] } = .bad
          ∧ ({ lockedLane { atEnd with fcs := 0x29B1, delay := [0x29, 0xB0] } none with lfmt := 0x00043320 } : Lane).fcsLen = 2
          ∧ Route.reset.keepErrored = false ∧ ({ Route.reset with rcfg := 0x4000 } : Route).keepErrored = true)
      ∧ ((seqCheck 0 (seqTicket 0x10) .good (expecting true)).2 = .back ∧ Route.reset.dropRetro = false
          ∧ ({ Route.reset with rcfg := 0x8000 } : Route).dropRetro = true)
      ∧ ((seqTicket 0x20).mIdx = BitVec.ofNat 8 (2 : Fin 32).val
          ∧ (seqTicket 0x20).gen = some ((expecting true).entry 2).gen ∧ (seqTicket 0x20).seqChk = true
          ∧ ((expecting true).lane 0).seqWidth ≠ 0 ∧ ((expecting true).entry 2).valid = true
          ∧ ((expecting false).entry 2).synced = false ∧ ((expecting true).entry 2).synced = true)
      ∧ (ticket3.gen = none ∧ ({ ticket3 with mIdx := 2 } : Ticket).seqChk = false)
      ∧ (distance 0x20 = 0 ∧ distance 0x21 = 1 ∧ distance 0x9F = 2 ^ 7 - 1 ∧ distance 0xA0 = 2 ^ 7)
      ∧ (2 ≤ ([0x31, 0x32, 0x33] : List Byte).length) :=
  ⟨⟨by decide +kernel, by decide +kernel, by decide, rfl, by decide, fun k => by simp [markedFrame]⟩, by decide +kernel,
    by decide +kernel, by decide +kernel, by decide, by decide, by decide⟩

/-- SYNC at a low level, rising edges active. -/
def syncLow (armed : Bool) : State := { base with tb := { base.tb with filter := ⟨some false, none, none⟩, armed := armed, epochHi := 7 } }

theorem witness_SyncEdgeActsInOrder :
    ((syncLow true).ctl.loading = false ∧ (syncLow true).tb.filter.level = some (!true)
        ∧ (syncLow true).tb.filter.last ≠ some (!true) ∧ (syncLow true).tb.syncFalling = !true)
      ∧ base.tb.filter.level = none
      ∧ ({ (syncLow true).tb with syncFalling := true } : Timebase).syncFalling = true
      ∧ (loadingS.ctl.loading = true ∧ (⟨some true, none, none⟩ : Filter).level = some true
          ∧ (⟨some false, some false, none⟩ : Filter).last = some (!true)) := by decide

theorem witness_SyncMissingAndPeriodicTick :
    (2 ^ 27 ≤ ({ base.tb with wdog := 134217728, present := true } : Timebase).wdog)
      ∧ base.tb.present = false
      ∧ ((base.tb.ref.extractLsb' 0 22 = 0#22) ∧ base.ctl.resetTick = false)
      ∧ ((4194303#64).extractLsb' 0 22 ≠ 0#22) ∧ State.reset.ctl.resetTick = true := by decide

/-- An input line at a low level, rising edges active, marking lanes 0 and 1. -/
def inputLine : Trig := { Trig.reset with cfg := 0x0310, arg := 0x00080004, filter := ⟨some false, none, none⟩ }

theorem witness_TriggerEdgeActs :
    (live (withTrig inputLine) ∧ ((withTrig inputLine).trig 2).out = false
        ∧ ((withTrig inputLine).trig 2).filter.level = some (!true)
        ∧ ((withTrig inputLine).trig 2).filter.last ≠ some (!true) ∧ ((withTrig inputLine).trig 2).edge = 0)
      ∧ ((base.trig 2).filter.level = none ∧ ({ inputLine with cfg := 2 } : Trig).edge = 1 ∧ busyS.ctl.resetBusy = true)
      ∧ (loadingS.ctl.loading = true ∧ ({ Trig.reset with cfg := 1 } : Trig).out = true
          ∧ (⟨some true, none, none⟩ : Filter).level = some true ∧ (⟨some false, some false, none⟩ : Filter).last = some (!true))
      ∧ (({ Trig.reset with arg := 0x00000008 } : Trig).starts 3 = true
          ∧ ((withRoute { Route.reset with st := .armed }).route 3).st = .armed ∧ base.ctl.quiesced = false)
      ∧ (({ Trig.reset with arg := 0x00080000 } : Trig).stops 3 = true
          ∧ ((withRoute { Route.reset with st := .running }).route 3).st = .running)
      ∧ Trig.reset.starts 3 = false := by decide +kernel

theorem witness_TriggerConfigAndPulseEnd :
    live base ∧ ({ Trig.reset with cfg := 0x0021, pulse := 1 } : Trig).out = true
      ∧ ({ Trig.reset with cfg := 0x0021, pulse := 1 } : Trig).omode = 1
      ∧ ({ Trig.reset with cfg := 0x0021, pulse := 1 } : Trig).pulseFresh = false := by decide

theorem witness_GuardedConfigurationWords :
    live base ∧ (∀ r, (base.route r).window = 0 → (base.route r).st = .disabled) ∧ (∀ r, (base.route r).st = .disabled)
      ∧ (∃ r, ((withRoute fetching).route r).window = 0 ∧ ((withRoute fetching).route r).st ≠ .disabled)
      ∧ (0x4000#32).toNat % 32768 ≤ 16384 ∧ 16384 < (0x4001#32).toNat % 32768 := by decide +kernel

/-- The acceptance condition of an RPOST write, in the statement's own words. -/
abbrev postOk (x : Route) (p : Count) : Prop :=
  (p - x.rdone).toNat ≤ 2 ^ fieldOf x.rcfg 16 4 ∧ (x.rfetch - x.rdone).toNat ≤ (p - x.rdone).toNat

theorem witness_CountAndLevelWrites :
    live base ∧ postOk fetching 8 ∧ postOk fetching 4 ∧ ¬postOk fetching 9 ∧ ¬postOk fetching 3
      ∧ (let e : Engine := { Engine.reset with crEnable := true, crprod := 5, crcons := 0xFFFF }
         ((5 : Count) - e.crcons).toNat ≤ (e.crprod - e.crcons).toNat
          ∧ ¬((6 : Count) - e.crcons).toNat ≤ (e.crprod - e.crcons).toNat)
      ∧ base.eng.crEnable = false ∧ base.buf.shed = false
      ∧ (let b : BufMgr := { base.buf with shed := true, free := List.range 256 }
         b.shed = true ∧ ((0#32).extractLsb' 0 14).toNat + 256 ≤ b.free.length
          ∧ b.free.length < ((1#32).extractLsb' 0 14).toNat + 256) := by decide +kernel

theorem witness_CompletionRingConfiguration :
    live base ∧ (∀ r, (base.route r).st = .disabled) ∧ (∃ r, ((withRoute fetching).route r).st ≠ .disabled)
      ∧ ((0x106#32).getLsbD 8 = true ∧ ((0x106#32).extractLsb' 0 4).toNat = 6)
      ∧ ((0x10E#32).extractLsb' 0 4).toNat = 14 ∧ ((0x105#32).extractLsb' 0 4).toNat < 6
      ∧ 14 < ((0x10F#32).extractLsb' 0 4).toNat ∧ base.eng.crbaseLo.toNat % 64 = 0 ∧ (0x006#32).getLsbD 8 = false := by
  decide +kernel

theorem witness_EvpopRemovesTheHead :
    live base ∧ (withEvents [routineEv]).ev.queue = routineEv :: [] ∧ base.ev.queue = [] := by decide

theorem witness_ModerationAndMessages :
    (live base ∧ (0x2#32).getLsbD 1 = true ∧ (0x7FFFFFFF#32).getLsbD 31 = false)
      ∧ ((rising true false).irq.modTimer = some 1024 ∧ (rising true false).irq.cmpTimer ≠ 0#16
          ∧ (rising true false).irq.cmpTimer.toNat * 1024 ≤ 1024 ∧ base.irq.modTimer = none)
      ∧ ((rising true false).host.intMode = true ∧ (rising true false).host.intMaster = true
          ∧ intActive (rising true false) ≠ 0#5 ∧ (rising true false).irq.prevReq = false
          ∧ (rising true false).irq.asked = false ∧ (rising true false).host.masterEn = true
          ∧ (rising true false).pos ≠ 7000)
      ∧ ((rising false false).host.masterEn = false ∧ intActive (rising false false) ≠ 0#5)
      ∧ ((rising true true).irq.held = true ∧ (rising true true).host.masterEn = true ∧ (rising true true).pos < 7000
          ∧ ∀ n, laneQuiet ((rising true true).lane n) = true)
      ∧ (base.host.intMode = false ∧ ({ base with pos := 7000 } : State).pos = 7000) := by decide +kernel

theorem witness_CommandIssueCapturesOrOverflows :
    live base ∧ (List.replicate 7 (cmd 0 0)).length < 8 ∧ 8 ≤ (List.replicate 8 (cmd 0 0)).length := by decide

theorem witness_GenericChecksEndBadCommands :
    (commandOp .routeArm = some 0x10 ∧ Ready (queued (cmd 0x10 16) base) (cmd 0x10 16) [] ∧ targetOk 0x10 16 = false
        ∧ targetOk 0x10 15 = true)
      ∧ (Ready (queued (cmd 0x01 0) base) (cmd 0x01 0) [] ∧ ∀ i, commandOp i ≠ some 0x01)
      ∧ (base.cmd.fifo = [] ∧ (queued (cmd 0x10 3) base).cmd.fifo = cmd 0x10 3 :: [] ∧ (cmd 0x10 3).op ≠ 0x00
          ∧ ({ base.cmd with busy := true } : CmdPort).busy = true ∧ busyS.ctl.resetBusy = true) :=
  ⟨by decide, ⟨by decide, fun i => by cases i <;> simp [commandOp]⟩, by decide⟩

theorem witness_NopEchoesItsArgument :
    Ready (queued (cmd 0x00 0xFF 9) base) (cmd 0x00 0xFF 9) [] ∧ (cmd 0x00 0xFF 9).op = 0x00 := by decide

theorem witness_MatchWriteReplacesTheEntry :
    (Ready (queued (cmd 0x20 31 0x800F0000) base) (cmd 0x20 31 0x800F0000) []
        ∧ (cmd 0x20 31).target = BitVec.ofNat 8 (31 : Fin 32).val
        ∧ ((0x800F0000#32).extractLsb' 16 8).toNat = (15 : Fin 16).val)
      ∧ 15 < ((0x80100000#32).extractLsb' 16 8).toNat := by decide

theorem witness_LaneResyncMakesAColdEntry :
    (Ready (queued (cmd 0x28 1) (withLane injecting)) (cmd 0x28 1) [] ∧ ((withLane injecting).lane 1).st = .search)
      ∧ (base.lane 1).st = .off
      ∧ ((withLane (lockedLane inBody (some (markedFrame (.admitted ticket3))))).lane 1).st = .locked := by
  decide +kernel

theorem witness_SnapshotAndEpochLoad :
    (Ready (queued (cmd 0x30 3 1) base) (cmd 0x30 3 1) [] ∧ (cmd 0x30 3 1).target = BitVec.ofNat 8 (3 : Fin 4).val)
      ∧ (cmd 0x30 31).target = BitVec.ofNat 8 (16 + (15 : Fin 16).val)
      ∧ (Ready (queued (cmd 0x38 0) base) (cmd 0x38 0) [] ∧ (cmd 0x38 0).target = 0)
      ∧ (Ready (queued (cmd 0x30 0xFF) base) (cmd 0x30 0xFF) [] ∧ (cmd 0x30 0xFF).target = 0xFF) := by decide

theorem witness_QuiesceAndUnquiesce :
    (Ready (queued (cmd 0x50 0) base) (cmd 0x50 0) [] ∧ Ready (queued (cmd 0x51 0) base) (cmd 0x51 0) [])
      ∧ (base.ctl.resetBusy = false ∧ ({ base.ctl with quiescing := true } : Control).quiescing = true
          ∧ base.eng.backlog = []
          ∧ ∀ r, framesFor base r = 0 ∧ settled base r = true ∧ (base.route r).read = none)
      ∧ ∃ r, ((withRoute fetching).route r).read ≠ none := by decide +kernel

/-- The completion ring enabled with 64 slots. -/
def ringOn (s : State) : State := { s with eng := { s.eng with crEnable := true, crsize := 6 } }

theorem witness_ArmAndStart :
    (Ready (queued (cmd 0x10 3) (ringOn base)) (cmd 0x10 3) [] ∧ (cmd 0x10 3).target = BitVec.ofNat 8 (3 : Fin 16).val
        ∧ ((ringOn base).route 3).st = .disabled ∧ base.eng.crEnable = false ∧ (ringOn base).eng.crEnable = true)
      ∧ (fieldOf (0x00020000#32) 16 4 < 3 ∧ 12 < fieldOf (0x000D0000#32) 16 4 ∧ ¬fieldOf (0x00030000#32) 16 4 < 3
          ∧ ¬12 < fieldOf (0x000C0000#32) 16 4 ∧ (32#32).toNat % 64 ≠ 0)
      ∧ (Ready (queued (cmd 0x11 3) (ringOn base)) (cmd 0x11 3) [] ∧ (ringOn base).ctl.quiesced = false)
      ∧ (Ready (queued (cmd 0x11 3) (withRoute { Route.reset with st := .armed })) (cmd 0x11 3) []
          ∧ ((withRoute { Route.reset with st := .armed }).route 3).st = .armed)
      ∧ ((withRoute { Route.reset with st := .halted }).route 3).st = .halted
      ∧ ({ base.ctl with quiesced := true } : Control).quiesced = true := by decide +kernel

/-- An open buffer with one record in it. -/
def openB : Buffer := { bufferA with used := 1048, count := 1, closed := none, linger := some 1024 }

theorem witness_StopResumeAndFlush :
    Ready (queued (cmd 0x12 3) (withRoute fetching)) (cmd 0x12 3) [] ∧ ((withRoute fetching).route 3).st = .running
      ∧ (Ready (queued (cmd 0x14 3) (withRoute { fetching with st := .halted, hfrom := .stopping })) (cmd 0x14 3) []
          ∧ ((withRoute { fetching with st := .halted, hfrom := .stopping }).route 3).st = .halted
          ∧ base.ctl.quiesced = false)
      ∧ (Ready (queued (cmd 0x15 3) (withRoute { fetching with buf := some openB })) (cmd 0x15 3) []
          ∧ ((withRoute { fetching with buf := some openB }).route 3).buf = some openB ∧ openB.closed = none)
      ∧ ((∀ b, fetching.buf = some b → b.closed ≠ none) ∧ bufferA.closed ≠ none) :=
  ⟨by decide +kernel, by decide +kernel, by decide +kernel, by decide +kernel, 
    fun b h => (by cases (show (none : Option Buffer) = some b from h)), by decide⟩

/-- Route 3 with a queued record and lane 1's frame in assembly for it. -/
def aborting : State :=
  (withRoute { fetching with queue := [rec1 [4]], buf := some { openB with linger := none } }).setLane 1
    (lockedLane inBody (some (markedFrame (.admitted ticket3))))

/-- Route 3 with a record of the given length at its head and a buffer, MASTER_EN at 1. -/
def placing (len : Nat) (b : Buffer) : State :=
  { withRoute { fetching with queue := [{ rec1 [4] with length := len }], buf := some b } with
    host := { base.host with masterEn := true } }

/-- Record 4's payload half written, and its last bytes to write. -/
def moving (done : Nat) : State :=
  { placing 512 { openB with used := 1048 } with
    eng := { base.eng with inProg := some { route := 3, off := 1048, done := done } } }

theorem witness_AbortWithdrawsAndDiscards :
    (Ready (queued (cmd 0x13 3) aborting) (cmd 0x13 3) [] ∧ (aborting.route 3).st = .running
        ∧ (∀ p, aborting.eng.inProg = some p → p.route ≠ 3) ∧ (aborting.lane 1).assembling 3 = true
        ∧ (aborting.lane 0).assembling 3 = false ∧ lingerDue aborting 3 = false ∧ quiet aborting = true)
      ∧ (∃ p, (moving 0).eng.inProg = some p ∧ p.route = 3)
      ∧ ((aborting.route 3).buf = some { openB with linger := none } ∧ openB.closed = none ∧ bufferA.closed ≠ none)
      ∧ (Route.reset.st = .disabled ∧ Route.reset.rpost = Route.reset.rdone ∧ base.eng.crEnable = false)
      ∧ ({ Route.reset with rpost := 1 } : Route).rpost ≠ ({ Route.reset with rpost := 1 } : Route).rdone
      ∧ ({ Route.reset with st := .aborting } : Route).st = .aborting :=
  ⟨⟨by decide +kernel, by decide +kernel, no_record (by decide) 3, by decide +kernel, by decide +kernel,
    by decide +kernel, by decide +kernel⟩, ⟨_, rfl, rfl⟩, by decide +kernel, by decide, by decide, rfl⟩

/-- A RUNNING route with descriptors to fetch and MASTER_EN at 1. -/
def hungry : State :=
  { withRoute { fetching with read := none, rpost := 0x0003, rfetch := 0xFFFF, rdone := 0xFFFF, cache := [] } with
    host := { base.host with masterEn := true } }

theorem witness_FetchAsksForWhatFits :
    (hungry.ctl.resetBusy = false ∧ (hungry.route 3).st = .running ∧ (hungry.route 3).read = none
        ∧ (hungry.route 3).cache.length < 2 ∧ (hungry.route 3).rpost ≠ (hungry.route 3).rfetch
        ∧ hungry.host.masterEn = true ∧ hungry.ctl.quiescing = false ∧ hungry.ctl.quiesced = false)
      ∧ (((withRoute fetching).route 3).read ≠ none ∧ 2 ≤ ((withRoute fetching).route 3).cache.length
          ∧ ((withRoute fetching).route 3).rpost = ((withRoute fetching).route 3).rfetch
          ∧ (withRoute fetching).host.masterEn = false ∧ (base.route 3).st ≠ .running ∧ (base.route 3).st ≠ .stopping)
      ∧ (settled hungry 3 = true ∧ ({ base.ctl with quiescing := true, quiesced := true } : Control).quiesced = true) := by
  decide +kernel

theorem witness_DescriptorReadOutcomes :
    (base.ctl.resetBusy = false ∧ fetching.read = some ⟨2, 2, 31250, false⟩
        ∧ 16 * 2 ≤ (List.replicate 32 (0 : Byte)).length ∧ (List.replicate 31 (0 : Byte)).length < 16 * 2)
      ∧ (busyS.ctl.resetBusy = true
          ∧ ({ busyS.ctl with oldReads := [⟨3, 2, 31250⟩] } : Control).oldReads = ⟨3, 2, 31250⟩ :: [])
      ∧ ((8#64).toNat % 8 = 0 ∧ 256 ≤ (256#32).toNat ∧ (65536#32).toNat ≤ 65536
          ∧ (0xFFFFFFFFFFFFFF00#64).toNat + (256#32).toNat = 2 ^ 64
          ∧ 2 ^ 64 < (0xFFFFFFFFFFFFFF08#64).toNat + (256#32).toNat)
      ∧ (0x10000000#64 &&& 0xF0000000#64) ≠ 0 := by decide +kernel

/-- A RUNNING route with a record, a cache and no buffer. -/
def opening (e : CacheEntry) : State := withRoute { fetching with queue := [rec1 [4]], cache := [e] }

/-- A good and a faulty cache entry. -/
def goodEntry : CacheEntry := ⟨0, none, some ⟨0x0A00, false, 4096, 0x1000⟩⟩

/-- See `goodEntry`. -/
def badEntry : CacheEntry := ⟨1, some .fence, some ⟨0x0A00, false, 4096, 0x1000⟩⟩

theorem witness_BufferOpensOrRouteHalts :
    ((opening goodEntry).ctl.resetBusy = false ∧ ((opening goodEntry).route 3).st = .running
        ∧ ((opening goodEntry).route 3).queue ≠ [] ∧ ((opening goodEntry).route 3).buf = none
        ∧ (∀ p, (opening goodEntry).eng.inProg = some p → p.route ≠ 3)
        ∧ (∀ c ∈ (opening goodEntry).eng.backlog, c.route ≠ 3) ∧ goodEntry.fault = none
        ∧ goodEntry.data = some ⟨0x0A00, false, 4096, 0x1000⟩)
      ∧ badEntry.fault = some .fence :=
  ⟨⟨rfl, by decide +kernel, by decide +kernel, by decide +kernel, no_record (by decide) 3, no_entry (by decide) 3, rfl,
    rfl⟩, rfl⟩

theorem witness_ArbitrationTurns :
    ((placing 4097 { openB with used := 0 }).ctl.resetBusy = false
        ∧ nextServed (placing 4097 { openB with used := 0 }) = some 3
        ∧ (placing 4097 { openB with used := 0 }).eng.inProg = none
        ∧ ({ openB with used := 0 } : Buffer).length < 4097)
      ∧ (nextServed (placing 3049 openB) = some 3 ∧ openB.length < openB.used + 3049 ∧ fetching.single = false
          ∧ openB.closed = none)
      ∧ (nextServed (placing 3048 openB) = some 3 ∧ ¬openB.length < openB.used + 3048)
      ∧ base.host.masterEn = false := by decide +kernel

theorem witness_PayloadWriteMovesTheRecord :
    ((moving 0).ctl.resetBusy = false ∧ (moving 0).host.masterEn = true
        ∧ (moving 0).eng.inProg = some ⟨3, 1048, 0⟩ ∧ ((moving 0).route 3).queue = { rec1 [4] with length := 512 } :: []
        ∧ ((moving 0).route 3).buf = some { openB with used := 1048 })
      ∧ 0 + min (256 - ((0x1000#64) + BitVec.ofNat 64 1048).toNat % 256) (512 - 0) < 512
      ∧ 512 ≤ 488 + min (256 - ((0x1000#64) + BitVec.ofNat 64 (1048 + 488)).toNat % 256) (512 - 488)
      ∧ (base.host.masterEn = false ∧ base.eng.inProg = none ∧ bufferA.closed ≠ none) := by
  decide +kernel

theorem witness_BuffersCloseForTheirReason :
    ((withRoute { fetching with buf := some openB, rlinger := 1 }).ctl.resetBusy = false
        ∧ ((withRoute { fetching with buf := some openB, rlinger := 1 }).route 3).buf = some openB
        ∧ openB.closed = none ∧ (∀ p, base.eng.inProg = some p → p.route ≠ 3) ∧ openB.linger = some 1024 ∧ openB.count ≠ 0
        ∧ ({ fetching with rlinger := 1 } : Route).lingerLimit * 1024 ≤ 1024
        ∧ ({ fetching with rlinger := 1 } : Route).lingerLimit ≠ 0)
      ∧ bufferA.closed ≠ none
      ∧ (1024 < ({ fetching with rlinger := 2 } : Route).lingerLimit * 1024
          ∧ framesFor (withRoute { fetching with st := .stopping, buf := some openB }) 3 = 0 ∧ fetching.queue = [])
      ∧ (({ base.ctl with quiescing := true } : Control).quiescing = true ∧ fetching.st = .running) :=
  ⟨⟨rfl, by decide +kernel, rfl, no_record (by decide) 3, rfl, by decide, by decide, by decide⟩, by decide,
    by decide +kernel, rfl, rfl⟩

/-- Route 3's buffer closed, the ring's counts and MASTER_EN as given. -/
def completing (crprod : Count) (masterEn : Bool) : State :=
  { withRoute { fetching with buf := some bufferA } with
    host := { base.host with masterEn := masterEn }
    eng := { base.eng with crEnable := true, crsize := 6, crprod := crprod } }

theorem witness_CompletionEntryIsMade :
    ((completing 63 true).ctl.resetBusy = false ∧ ((completing 63 true).route 3).buf = some bufferA
        ∧ bufferA.idx < 4096 ∧ bufferA.closed = some .full ∧ (∀ p, (completing 63 true).eng.inProg = some p → p.route ≠ 3)
        ∧ (completing 63 true).eng.backlog = []
        ∧ ((completing 63 true).eng.crprod - (completing 63 true).eng.crcons).toNat
            ≠ 2 ^ (completing 63 true).eng.crsize.toNat ∧ (completing 63 true).host.masterEn = true)
      ∧ ((completing 64 true).eng.crprod - (completing 64 true).eng.crcons).toNat
          = 2 ^ (completing 64 true).eng.crsize.toNat
      ∧ (completing 63 false).host.masterEn = false ∧ ([entry3] : List Completion) ≠ [] :=
  ⟨⟨rfl, by decide +kernel, by decide, rfl, no_record (by decide) 3, rfl, by decide, rfl⟩, by decide, rfl, by decide⟩

/-- Route 3 ABORTING with a posted descriptor, its data cached or not. -/
def cancelling (cache : List CacheEntry) : State :=
  { withRoute { fetching with st := .aborting, read := none, rpost := 9, rdone := 8, rfetch := 8, cache := cache } with
    host := { base.host with masterEn := true }
    eng := { base.eng with crEnable := true, crsize := 6 } }

theorem witness_CancelAndDrain :
    ((cancelling []).ctl.resetBusy = false ∧ ((cancelling []).route 3).st = .aborting
        ∧ ((cancelling []).route 3).buf = none ∧ ((cancelling []).route 3).read = none
        ∧ ((cancelling []).route 3).rpost ≠ ((cancelling []).route 3).rdone
        ∧ (∀ c ∈ (cancelling []).eng.backlog, c.route ≠ 3) ∧ (cancelling []).eng.backlog = []
        ∧ ((cancelling []).eng.crprod - (cancelling []).eng.crcons).toNat ≠ 2 ^ (cancelling []).eng.crsize.toNat
        ∧ (cancelling []).host.masterEn = true ∧ ((cancelling []).route 3).dataAtDone = none)
      ∧ ((cancelling [goodEntry]).route 3).dataAtDone = some ⟨0x0A00, false, 4096, 0x1000⟩
      ∧ ((∀ c ∈ [{ entry3 with route := 5 }], c.route ≠ 3)
          ∧ ((64 : Count) - 0).toNat = 2 ^ (cancelling []).eng.crsize.toNat ∧ base.host.masterEn = false)
      ∧ ((base.route 3).st ≠ .aborting ∧ ∃ c ∈ [entry3], c.route = 3)
      ∧ (([entry3, { entry3 with route := 5 }] : List Completion) = entry3 :: [{ entry3 with route := 5 }]
          ∧ base.eng.backlog = []) :=
  ⟨⟨rfl, by decide +kernel, by decide +kernel, by decide +kernel, by decide +kernel, no_entry (by decide) 3, rfl, by decide, rfl,
    by decide +kernel⟩, by decide +kernel, ⟨by decide, by decide, rfl⟩, ⟨by decide +kernel, entry3, by decide, rfl⟩, rfl, rfl⟩

theorem witness_DrainedAndAbortedRoutesClose :
    (base.ctl.resetBusy = false ∧ framesFor (withRoute { Route.reset with st := .stopping }) 3 = 0
        ∧ ({ Route.reset with st := .stopping } : Route).queue = []
        ∧ ({ Route.reset with st := .stopping } : Route).buf = none
        ∧ (∀ p, (withRoute { Route.reset with st := .stopping }).eng.inProg = some p → p.route ≠ 3)
        ∧ ∀ c ∈ (withRoute { Route.reset with st := .stopping }).eng.backlog, c.route ≠ 3)
      ∧ ({ Route.reset with st := .aborting } : Route).rdone = ({ Route.reset with st := .aborting } : Route).rpost
      ∧ (base.route 3).st ≠ .stopping ∧ (base.route 3).st ≠ .aborting
      ∧ (∃ c ∈ [entry3], c.route = 3) :=
  ⟨⟨rfl, by decide +kernel, rfl, rfl, no_record (by decide) 3, no_entry (by decide) 3⟩, rfl, by decide +kernel,
    by decide +kernel, entry3, by decide, rfl⟩

/-! ### One step each, the expected values from the rule or the example named -/

/-- R170, R175: the boot load begins with word 0, in the tick after the reset. -/
theorem test_boot_start :
    (go .bootLoadStart State.reset).store.op = some ⟨0, 0⟩ ∧ (go .bootLoadStart State.reset).tb.ref = 1#64 := by
  decide +kernel

/-- R129: the counter advances by one a tick. -/
theorem test_tick : (tick base).tb.ref = 1#64 := by decide +kernel

/-- R4: ACCERR for a one-byte write at 0x013. -/
theorem test_access_error :
    readWord (go (.accessError 0x013 true 0x8 false 0xAB) base) 0x00C = 0x80081013#32
      ∧ (newest (go (.accessError 0x013 true 0x8 false 0xAB) base)).map shape = some (0x90, 0xFF, 0x80081013, 0xAB) := by
  decide +kernel

/-- R6, R8: a plain register reads back what was written, and nothing while LOADING is 1. -/
theorem test_register_write :
    readWord (go (.registerWrite 0x284 0xFFFFF123) base) 0x284 = 0x3123#32
      ∧ readWord (go (.registerWrite 0x284 0x123) loadingS) 0x284 = 1#32 := by decide +kernel

/-- R21, R24: the reset configuration fails the check with code 3, FIXLEN outside 4 to 4096. -/
theorem test_lane_enable_fails :
    (newest (go (.laneEnable 1 0x1041) base)).map shape = some (0x93, 1, 3, 1)
      ∧ readWord (go (.laneEnable 1 0x1041) base) 0x150 = 0x00030000#32 := by decide +kernel

/-- R25: a lane that passes is in SEARCH. -/
theorem test_lane_enable_passes :
    ((go (.laneEnable 1 0x1041) (withLane { Lane.reset with lfmt := 0x00043300 })).lane 1).st = .search := by
  decide +kernel

/-- R22: LFMT of an enabled lane, refused with the offset and the data. -/
theorem test_write_while_active :
    (newest (go (.laneConfigWrite 1 .lfmt 0x77) (withLane injecting))).map shape = some (0x91, 1, 0x148, 0x77) := by
  decide +kernel

/-- Chapter 3's example, position 1: the first match begins VERIFY at count 1. -/
theorem test_lock_position1 :
    ((go (.syncFound 1) (withLane (searching 0xEB90 3))).lane 1).st = .verify
      ∧ ((go (.syncFound 1) (withLane (searching 0xEB90 3))).lane 1).verifyCnt = 1 := by decide +kernel

/-- Position 3: the third match locks. -/
theorem test_lock_position3 :
    ((go (.syncPosition 1) (withLane (atSync .verify 0xEB90 0 2))).lane 1).st = .locked
      ∧ (newest (go (.syncPosition 1) (withLane (atSync .verify 0xEB90 0 2)))).map Event.cause = some 0x20 := by
  decide +kernel

/-- Position 8: the third miss loses lock, from COAST, with one LOCKLOSS. -/
theorem test_lock_position8 :
    ((go (.syncPosition 1) (withLane (atSync .coast 0xEB91 2 3))).lane 1).st = .search
      ∧ ((go (.syncPosition 1) (withLane (atSync .coast 0xEB91 2 3))).lane 1).counter .lockLoss = 1#32
      ∧ (newest (go (.syncPosition 1) (withLane (atSync .coast 0xEB91 2 3)))).map shape = some (0x21, 1, 1, 5) := by
  decide +kernel

/-- R43: a computed length of 3 is a length error from LOCKED, with 0x21 behind 0x25. -/
theorem test_length_error :
    ((go (.headerExtent 1) (withLane (lengthLane 3))).ev.queue).map shape = [(0x25, 1, 3, 4), (0x21, 1, 2, 4)] := by
  decide +kernel

/-- R80: an admitted frame takes its one block from the head of the free list. -/
theorem test_admission :
    (go (.headerExtent 1) (classifying { Route.reset with st := .running })).buf.free = [9]
      ∧ ((go (.headerExtent 1) (classifying { Route.reset with st := .running })).lane 1).blocks = [5] := by
  decide +kernel

/-- Chapter 5's pressure example, step 2: 0x43 with the blocks held, the need and the lane. -/
theorem test_quota_refusal :
    (newest (go (.headerExtent 1) (classifying { Route.reset with
      st := .running, rquota := 3, queue := [rec1 [1, 2, 3]] }))).map shape = some (0x43, 3, 3, 0x00010001) := by
  decide +kernel

/-- Chapter 5's retention example: three records and P = 3, so the oldest is evicted. -/
theorem test_retention :
    ((go (.headerExtent 1) (classifying { Route.reset with
        st := .armed, rquota := 8, rpretrig := 3, queue := [rec1 [1], rec1 [2], rec1 [3]] })).route 3).queue
      = [rec1 [2], rec1 [3]] := by decide +kernel

/-- R83: the frame end commits a record with the route's next serial. -/
theorem test_frame_end :
    ((go (.frameEnd 1) (withLane (lockedLane atEnd (some (markedFrame (.admitted ticket3)))))).route 3).serial = 1#32
      ∧ (((go (.frameEnd 1) (withLane (lockedLane atEnd (some (markedFrame (.admitted ticket3)))))).route 3).queue).map
          (fun x => (x.length, x.flags, x.chain)) = [(28, 0x02, [7])] := by decide +kernel

/-- Chapter 4's merging example: a gap of two posts 0x30 with the expectation, the value, the lane and the route. -/
theorem test_sequence_gap :
    (newest (seqCheck 0 { ticket3 with route := 6, mIdx := 2, gen := some 0, seqChk := true, seq := 0x25 } .good
        ((base.setLane 0 { Lane.reset with lhdr := 0x100 }).setEntry 2
          { MatchEntry.reset with valid := true, synced := true, expected := 0x23 })).1).map shape
      = some (0x30, 2, 0x23, 0x06000025) := by decide +kernel

/-- R132, R135: an armed edge loads EPOCH, posts 0x71 with the old value, and restores SYNC with 0x73. -/
theorem test_sync_edge :
    (go (.syncEdge true) (syncLow true)).tb.syncCap = 0x0000000700000000#64
      ∧ ((go (.syncEdge true) (syncLow true)).ev.queue).map shape
          = [(0x71, 0xFF, 0, 0), (0x73, 0xFF, 0, 7)] := by decide +kernel

/-- R139, R140: an edge counts, and marks the lanes of its mask that are not OFF. -/
theorem test_trigger_edge :
    ((go (.triggerEdge 2 true) ((withTrig inputLine).setLane 1 injecting)).trig 2).edges = 1#16
      ∧ ((go (.triggerEdge 2 true) ((withTrig inputLine).setLane 1 injecting)).lane 1).marks[2] = some 0
      ∧ ((go (.triggerEdge 2 true) ((withTrig inputLine).setLane 1 injecting)).lane 0).marks[2] = none := by
  decide +kernel

/-- R6, R171: a preset of TGCFG with bit 15 leaves the FLAG that an edge of its tick set, and clears it a tick later. -/
theorem test_flag_set_and_preset :
    let s := go (.triggerEdge 2 true) (withTrig inputLine)
    let preset (u : State) : Bool := ((applyPair (0x220, 0x8310) u).1.trig 2).flag
    (preset s, preset (tick s)) = (true, false) := by decide +kernel

/-- R110: RPOST one slot beyond the ring is ignored with 0x60. -/
theorem test_rpost_refused :
    ((go (.rpostWrite 3 9) (withRoute fetching)).route 3).rpost = 4#16
      ∧ (newest (go (.rpostWrite 3 9) (withRoute fetching))).map shape = some (0x60, 3, 9, 0x00040000) := by
  decide +kernel

/-- Chapter 6's example, step 1: ROUTE_ARM answers OK with DISABLED before and ARMED after. -/
theorem test_route_arm :
    (newest (go .routeArm (queued (cmd 0x10 3) (ringOn (withRoute { Route.reset with rcfg := 0x00030000 }))))).map shape
      = some (0x10, 3, 0x00031007, 0x00000100) := by decide +kernel

/-- R161: a target outside the table. -/
theorem test_bad_target :
    (newest (go .routeArm (queued (cmd 0x10 16) base))).map shape = some (0x13, 16, 0x00101007, 0) := by decide +kernel

/-- R163: NOP echoes its argument. -/
theorem test_nop :
    (newest (go .nop (queued (cmd 0x00 0xFF 0xDEAD) base))).map shape = some (0x10, 0xFF, 0x00FF0007, 0xDEAD) := by
  decide +kernel

/-- R60, R61: the entry's generation counts and is reported. -/
theorem test_match_write :
    readWord (go .matchWrite (queued (cmd 0x20 31 0x83034F47) base)) 0x8F8 = 0x83034F47#32
      ∧ (newest (go .matchWrite (queued (cmd 0x20 31 0x83034F47) base))).map Event.b = some 1 := by decide +kernel

/-- Chapter 7's delivery example, step 1: two descriptors are asked for at the ring base. -/
theorem test_fetch :
    (go (.descriptorFetch 3) { withRoute { Route.reset with st := .running, rcfg := 0x00030000, rpost := 2, rrbaseLo := 0x40 }
        with host := { base.host with masterEn := true } }).bus = [.read 3 0x40 2]
      ∧ ((go (.descriptorFetch 3) { withRoute { Route.reset with st := .running, rcfg := 0x00030000, rpost := 2 }
        with host := { base.host with masterEn := true } }).route 3).rfetch = 2#16 := by decide +kernel

/-- Chapter 7's delivery example, steps 4 and 5: the third record leaves the buffer open at 3144, and the fourth
closes it FULL. -/
theorem test_packing :
    (({ openB with used := 2096 } : Buffer).take { rec1 [] with length := 1048 } false 0).used = 3144
      ∧ (({ openB with used := 2096 } : Buffer).take { rec1 [] with length := 1048 } false 0).closed = none
      ∧ ((go .recordPlace (placing 1048 { openB with used := 3144 })).route 3).buf.map Buffer.closed
          = some (some .full) := by decide +kernel

/-- Chapter 7's delivery example: the entry as posted on route 1's behalf, at the base, by slot 0. -/
theorem test_completion :
    (go (.completionEntry 3) (completing 0 true)).bus
      = [.completion 0
          [0x48, 0x0C, 0x00, 0x83, 0x00, 0x0A, 0x00, 0x00, 0x03, 0x00, 0x00, 0x00, 0x00, 0x00, 0x00, 0x00]] := by
  decide +kernel

/-- R126: entry 64 of a 64-slot ring turns the phase. -/
theorem test_phase :
    (completing 63 true).eng.advance.phase = false ∧ (completing 62 true).eng.advance.phase = true := by decide

/-- R121: the first write of a payload at 0x1418 ends at the next multiple of 256. -/
theorem test_payload :
    (go (.payloadWrite 1) (moving 0)).eng.inProg = some ⟨3, 1048, 232⟩ := by decide +kernel

/-- Chapter 9's moderation example, steps 1 and 3: the first entry starts the timer; 2048 ticks expire it. -/
theorem test_moderation :
    (({ Interrupts.reset with cmpCount := 8, cmpTimer := 2 } : Interrupts).report false).modTimer = some 0
      ∧ moderationDue { Interrupts.reset with cmpTimer := 2, modTimer := some 2048 } = true
      ∧ moderationDue { Interrupts.reset with cmpTimer := 2, modTimer := some 2047 } = false := by decide

/-- R173: SLB protects word 63 and STORE_LOCK raises SLB. -/
theorem test_store_protected :
    (newest (go .storeWrite (queued (cmd 0x41 0 63 1) base))).map Event.cause = some 0x16
      ∧ (go .storeLock (queued (cmd 0x42 0 65) base)).store.slb = 65 := by decide +kernel

/-- R181: an idle quiescing device is quiesced, with 0xA0. -/
theorem test_quiesced :
    (go .quiesced { base with ctl := { base.ctl with quiescing := true } }).ctl.quiesced = true
      ∧ (newest (go .quiesced { base with ctl := { base.ctl with quiescing := true } })).map shape
          = some (0xA0, 0xFF, 0, 0) := by decide +kernel

end Sys2Proof.Tests
end

