-- ==== Sys2Proof/Proofs/Delivery.lean ====
section
/-! SUPPORT. Descriptor reads and completion entries (R113, R115, R123, R126, R127): what each operation does in each
of its cases, and the statements O53 and O58 that these lemmas settle. -/

namespace Sys2Proof.Machine

/-! ### The entry of a closed buffer -/

/-- A sub-step of the engine acts by its effect while no device reset is busy. -/
theorem acts_engineStep {c : Instr} {f : State → State} {s : State}
    (hc : ∀ s₀, exec c s₀ = inTurn c (engineStep f) s₀) (hb : s.ctl.resetBusy = false) : Acts c s (f s) := by
  have h := acts_inTurn hc s
  rwa [engineStep_idle hb] at h

/-- Making the entry of a closed buffer with no record in progress into it. -/
theorem completeBuffer_closed {s : State} {r : Fin 16} {b : Buffer} {why : Reason}
    (hbuf : (s.route r).buf = some b) (hwhy : b.closed = some why)
    (hfree : ∀ p, s.eng.inProg = some p → p.route ≠ r) :
    completeBuffer r s = makeEntry (bufferEntry r b why)
      (fun s => s.modRoute r (fun t => { t.countEntry with buf := none })) s := by
  simp [completeBuffer, hbuf, hwhy, inProgressOn_false hfree]

/-- The ring is full when the producer is a ring ahead of the consumer (R126). -/
theorem ringFull_iff (s : State) :
    ringFull s = true ↔ (s.eng.crprod - s.eng.crcons).toNat = 2 ^ s.eng.crsize.toNat := by
  simp [ringFull]

/-- With an empty backlog and room in the ring an entry is posted while MASTER_EN is 1 and waits otherwise. -/
theorem makeEntry_room {s : State} (e : Completion) (made : State → State) (hb : s.eng.backlog = [])
    (hr : ringFull s = false) :
    makeEntry e made s = if s.host.masterEn then postEntry e (made s) else s := by
  simp [makeEntry, hb, hr]

/-- With entries waiting or the ring full an entry joins the backlog. -/
theorem makeEntry_join {s : State} (e : Completion) (made : State → State)
    (h : s.eng.backlog ≠ [] ∨ ringFull s = true) : makeEntry e made s = joinBacklog e (made s) :=
  if_pos h

/-- An entry behind others joins them in silence. -/
theorem joinBacklog_behind {s : State} (e : Completion) (h : s.eng.backlog ≠ []) :
    joinBacklog e s =
      { s with
        eng :=
          { s.eng with
            backlog := s.eng.backlog ++ [e]
            backlogMax := max s.eng.backlogMax (s.eng.backlog.length + 1) } } := by
  simp [joinBacklog, h]

/-- The first entry of the backlog is told by 0x61. -/
theorem joinBacklog_first {s : State} (e : Completion) (h : s.eng.backlog = []) :
    joinBacklog e s =
      post 0x61 (srcIdx e.route) (s.eng.crprod.setWidth 32) (s.eng.crcons.setWidth 32)
        { s with eng := { s.eng with backlog := [e], backlogMax := 1 } } := by
  simp [joinBacklog, h]

/-- An index of 12 bits stands in the INDEX field as it is. -/
theorem indexField_of_lt {idx : Nat} (h : idx < 4096) : indexField idx = idx := if_pos h

/-- Settles O58, by the way `makeEntry` goes: to the ring, behind the backlog, as the first of it, or not yet. -/
theorem completionEntryIsMade : Obligations.CompletionEntryIsMade := by
  intro r b why s hbusy hbuf hwhy hfree y e slots entry made
  have act : Acts (.completionEntry r) s (completeBuffer r s) := acts_engineStep (fun _ => rfl) hbusy
  rw [completeBuffer_closed hbuf hwhy hfree] at act
  have room : (e.crprod - e.crcons).toNat ≠ slots → ringFull s = false :=
    fun h => Bool.eq_false_iff.mpr fun hf => h ((ringFull_iff s).mp hf)
  refine ⟨fun hidx hempty hroom hen => ?posted, fun hsome => ?behind, fun hempty hfull => ?first,
    fun hempty hroom hen => ?waits⟩
  case posted =>
    rw [makeEntry_room _ _ hempty (room hroom), if_pos hen, postEntry_eq, Completion.bytes, Completion.word1,
      show (bufferEntry r b why).idx = b.idx from rfl, indexField_of_lt hidx] at act
    exact act
  case behind =>
    rw [makeEntry_join _ _ (.inl hsome)] at act
    rwa [joinBacklog_behind (s := s.modRoute r _) _ hsome] at act
  case first =>
    rw [makeEntry_join _ _ (.inr ((ringFull_iff s).mpr hfull))] at act
    rwa [joinBacklog_first (s := s.modRoute r _) _ hempty] at act
  case waits =>
    rw [makeEntry_room _ _ hempty (room hroom), hen] at act
    exact act

/-! ### Descriptors in host memory -/

theorem length_leBytes (k v : Nat) : (leBytes k v).length = k := by
  induction k generalizing v with
  | zero => rfl
  | succ k ih => simp [leBytes, ih]

/-- The number in k little-endian bytes is the number they were made of, modulo 256^k. -/
theorem leNat_leBytes (k v : Nat) : leNat (leBytes k v) = v % 256 ^ k := by
  induction k generalizing v with
  | zero => simp [leBytes, leNat, Nat.mod_one]
  | succ k ih =>
    rw [leBytes, leNat, ih, BitVec.toNat_ofNat, pow_succ' 256 k, Nat.mod_mul]

/-- A word that is written as k bytes and read back. -/
theorem ofNat_leNat_leBytes (k : Nat) {w : Nat} (x : BitVec w) (h : 2 ^ w ≤ 256 ^ k) :
    BitVec.ofNat w (leNat (leBytes k x.toNat)) = x := by
  rw [leNat_leBytes, Nat.mod_eq_of_lt (x.isLt.trans_le h), BitVec.ofNat_toNat, BitVec.setWidth_eq]

/-- A descriptor is read back from the sixteen bytes that spell it (R2, R109). -/
theorem descOf_bytes (d : RawDesc) :
    descOf (leBytes 8 d.address.toNat ++ leBytes 4 d.length.toNat ++ leBytes 4 d.control.toNat) = d := by
  obtain ⟨a, l, c⟩ := d
  simp only [descOf, RawDesc.mk.injEq]
  refine ⟨?_, ?_, ?_⟩
  · rw [List.append_assoc, List.take_left' (length_leBytes 8 _)]
    exact ofNat_leNat_leBytes 8 a (by decide)
  · rw [List.append_assoc, List.drop_left' (length_leBytes 8 _), List.take_left' (length_leBytes 4 _)]
    exact ofNat_leNat_leBytes 4 l (by decide)
  · rw [List.drop_left' (by simp [length_leBytes]), List.take_of_length_le (length_leBytes 4 _).le]
    exact ofNat_leNat_leBytes 4 c (by decide)

/-- A descriptor is read from sixteen bytes and no more. -/
theorem descOf_take (bs : List Byte) : descOf (bs.take 16) = descOf bs := by
  simp [descOf, List.take_take, List.drop_take]

theorem length_descsOf (n : Nat) (bs : List Byte) : (descsOf n bs).length = n := by
  induction n generalizing bs with
  | zero => rfl
  | succ n ih => simp [descsOf, ih]

/-- Descriptor k of host memory stands in its sixteen bytes. -/
theorem getElem_descsOf (n : Nat) (bs : List Byte) (k : Nat) (h : k < (descsOf n bs).length) :
    (descsOf n bs)[k] = descOf ((bs.drop (16 * k)).take 16) := by
  induction n generalizing bs k with
  | zero => exact absurd h (Nat.not_lt_zero k)
  | succ n ih =>
    cases k with
    | zero => exact (descOf_take bs).symm
    | succ k =>
      have hk := ih (bs.drop 16) k (Nat.lt_of_succ_lt_succ h)
      rwa [List.drop_drop, Nat.add_comm, ← Nat.mul_succ] at hk

/-! ### Entries of a read -/

/-- Counting on from the next count. -/
theorem count_succ (c : Count) (k : Nat) : c + 1#16 + BitVec.ofNat 16 k = c + BitVec.ofNat 16 (k + 1) := by
  rw [BitVec.add_assoc, Nat.add_comm k 1, BitVec.ofNat_add]

theorem length_dataEntries (t : Route) (w : Window) (c : Count) (ds : List RawDesc) :
    (dataEntries t w c ds).length = ds.length := by
  induction ds generalizing c with
  | nil => rfl
  | cons d ds ih => simp [dataEntries, ih]

/-- Entry k of a DATA outcome is the checked descriptor k, at its place in the ring. -/
theorem getElem_dataEntries (t : Route) (w : Window) (c : Count) (ds : List RawDesc) (k : Nat)
    (h : k < (dataEntries t w c ds).length) :
    (dataEntries t w c ds)[k]
      = descEntry (ds[k]'(length_dataEntries t w c ds ▸ h)) w (t.ringIdx (c + BitVec.ofNat 16 k)) := by
  induction ds generalizing c k with
  | nil => exact absurd h (Nat.not_lt_zero k)
  | cons d ds ih =>
    cases k with
    | zero => simp [dataEntries]
    | succ k => simpa [dataEntries, count_succ] using ih (c + 1) k (Nat.lt_of_succ_lt_succ h)

/-- The entries of an ERROR or TIMEOUT outcome stand in ring order from the read's first count on. -/
theorem faultEntries_eq (t : Route) (f : DescFault) (c : Count) (n : Nat) :
    faultEntries t f c n = (List.range n).map (fun k =>
      { idx := t.ringIdx (c + BitVec.ofNat 16 k), fault := some f, data := none }) := by
  induction n generalizing c with
  | zero => rfl
  | succ n ih =>
    simp [faultEntries, ih, List.range_succ_eq_map, Function.comp_def, count_succ]

/-! ### The end of a read -/

/-- An answer that ends the outstanding read in time. -/
theorem readDone_ends {s : State} {r : Fin 16} {q : ReadReq} {answer : ReadAnswer}
    (hbusy : s.ctl.resetBusy = false) (hread : (s.route r).read = some q) (hage : q.age ≤ Config.readLimit)
    (hends : answerEnds q.n answer = true) :
    readDone r answer s = endRead r q (answerEntries (s.route r) (routeWindow s r) q answer) s := by
  simp [readDone, hbusy, hread, hage, hends]

/-- An answer that is too short ends no read. -/
theorem readDone_short {s : State} {r : Fin 16} {q : ReadReq} {answer : ReadAnswer}
    (hbusy : s.ctl.resetBusy = false) (hread : (s.route r).read = some q)
    (hends : answerEnds q.n answer = false) : readDone r answer s = s := by
  simp [readDone, hbusy, hread, hends]

/-- The outstanding read times out at the limit. -/
theorem readTimeout_ends {s : State} {r : Fin 16} {q : ReadReq} (hbusy : s.ctl.resetBusy = false)
    (hread : (s.route r).read = some q) (hage : Config.readLimit ≤ q.age) :
    readTimeout r s = endRead r q (faultEntries (s.route r) .timeout q.start q.n) s := by
  simp [readTimeout, hbusy, hread, hage]

/-- While a device reset is busy an answer is only noted. -/
theorem readDone_busy {s : State} (r : Fin 16) (answer : ReadAnswer) (h : s.ctl.resetBusy = true) :
    readDone r answer s = endOldRead r answer s := if_pos h

/-- While a device reset is busy a timeout is only noted. -/
theorem readTimeout_busy {s : State} (r : Fin 16) (h : s.ctl.resetBusy = true) :
    readTimeout r s = timeOldRead r s := if_pos h

/-- The first old read of the route, answered in full and in time, is over. -/
theorem endOldRead_head {s : State} {r : Fin 16} {n age : Nat} {rest : List OldRead} {answer : ReadAnswer}
    (hold : s.ctl.oldReads = { route := r, n := n, age := age } :: rest) (hage : age ≤ Config.readLimit)
    (hends : answerEnds n answer = true) :
    endOldRead r answer s = { s with ctl := { s.ctl with oldReads := rest } } := by
  simp [endOldRead, hold, hage, hends]

/-- An answer that ends none of the old reads changes nothing. -/
theorem endOldRead_none {s : State} {r : Fin 16} {answer : ReadAnswer}
    (h : ∀ e ∈ s.ctl.oldReads, e.route = r → answerEnds e.n answer = false) : endOldRead r answer s = s := by
  have keep : s.ctl.oldReads.eraseP
      (fun e => e.route == r && decide (e.age ≤ Config.readLimit) && answerEnds e.n answer) = s.ctl.oldReads := by
    refine List.eraseP_of_forall_not fun e he => ?_
    by_cases hr : e.route = r
    · simp [h e he hr]
    · simp [hr]
  unfold endOldRead
  rw [keep]

/-- The first old read of the route times out at the limit and is counted. -/
theorem timeOldRead_head {s : State} {r : Fin 16} {n age : Nat} {rest : List OldRead}
    (hold : s.ctl.oldReads = { route := r, n := n, age := age } :: rest) (hage : Config.readLimit ≤ age) :
    timeOldRead r s
      = { s with ctl := { s.ctl with oldReads := rest, readTimeouts := s.ctl.readTimeouts + 1 } } := by
  simp [timeOldRead, hold, hage]

/-! ### The check of a descriptor -/

/-- The end address of a buffer within the address space does not wrap. -/
theorem descEnd_eq {d : RawDesc} (h : 1 ≤ d.length.toNat) :
    descEnd d = BitVec.ofNat 64 (d.address.toNat + d.length.toNat - 1) := by
  unfold descEnd
  bv_omega

/-- R113: MALFORMED, in numbers. -/
theorem descMalformed_iff (d : RawDesc) :
    descMalformed d = true ↔
      d.address.toNat % 8 ≠ 0 ∨ d.length.toNat < 256 ∨ 65536 < d.length.toNat ∨ d.length.toNat % 8 ≠ 0
        ∨ 2 ^ 64 < d.address.toNat + d.length.toNat := by
  simp only [descMalformed, Bool.or_eq_true, bne_iff_ne, decide_eq_true_eq]
  omega

/-- R115: an end of the buffer carries a masked address bit. -/
theorem descFenced_iff (d : RawDesc) (w : Window) :
    descFenced d w = true ↔ d.address &&& w.mask ≠ 0 ∨ descEnd d &&& w.mask ≠ 0 := by
  simp [descFenced]

/-- The entry of a descriptor by the fault its check finds. -/
theorem descEntry_fault {d : RawDesc} {w : Window} {f : DescFault} (idx : Nat) (h : descCheck d w = some f) :
    descEntry d w idx
      = { idx := idx, fault := some f
          data := some { tag := descTag d, intReq := descIntReq d, length := d.length.toNat, address := d.address } } := by
  simp [descEntry, h]

/-- The entry of a good descriptor has its effective address. -/
theorem descEntry_good {d : RawDesc} {w : Window} (idx : Nat) (h : descCheck d w = none) :
    descEntry d w idx
      = { idx := idx, fault := none
          data :=
            some { tag := descTag d, intReq := descIntReq d, length := d.length.toNat
                   address := descEffective d w } } := by
  simp [descEntry, h]

/-- Settles O53: `acts_inTurn` reduces each clause to what the row does, which the lemmas above say case by case. -/
theorem descriptorReadOutcomes : Obligations.DescriptorReadOutcomes := by
  refine ⟨?outcomes, descOf_bytes, ?old, ?check⟩
  case outcomes =>
    intro r q s x ends faulty hbusy hread
    have done (answer : ReadAnswer) : Acts (.descriptorReadDone r answer) s (readDone r answer s) :=
      acts_inTurn (fun _ => rfl) s
    have timed : Acts (.descriptorReadTimeout r) s (readTimeout r s) := acts_inTurn (fun _ => rfl) s
    refine ⟨fun hage => ?error, fun hage => ?timeout, fun bs hlen => ?short, fun bs hage hlen => ?data⟩
    case error =>
      have act := done .error
      rwa [readDone_ends hbusy hread hage rfl, answerEntries, faultEntries_eq] at act
    case timeout =>
      rwa [readTimeout_ends hbusy hread hage, faultEntries_eq] at timed
    case short =>
      have act := done (.data bs)
      rwa [readDone_short hbusy hread (by simpa [answerEnds] using hlen)] at act
    case data =>
      have act := done (.data bs)
      rw [readDone_ends hbusy hread hage (by simpa [answerEnds] using hlen)] at act
      refine ⟨_, act, ?_, fun k hk => ?_⟩
      · rw [answerEntries, length_dataEntries, length_descsOf]
      · exact (getElem_dataEntries _ _ _ _ k hk).trans (by rw [getElem_descsOf]; rfl)
  case old =>
    intro r answer n age rest s
    have done : Acts (.descriptorReadDone r answer) s (readDone r answer s) := acts_inTurn (fun _ => rfl) s
    have timed : Acts (.descriptorReadTimeout r) s (readTimeout r s) := acts_inTurn (fun _ => rfl) s
    refine ⟨acts_inTurn (f := id) (fun _ => rfl) s, fun hbusy hold => ?_⟩
    rw [readDone_busy r answer hbusy] at done
    rw [readTimeout_busy r hbusy] at timed
    refine ⟨fun hage hfull => ?_, ?_, fun hage => ?_⟩
    · have hends : answerEnds n answer = true := by
        rcases hfull with rfl | ⟨bs, rfl, hlen⟩
        · rfl
        · simpa [answerEnds] using hlen
      rwa [endOldRead_head hold hage hends] at done
    · rintro ⟨bs, rfl, hlen⟩ hrest
      rwa [endOldRead_none] at done
      intro e he hr
      rw [hold, List.mem_cons] at he
      rcases he with rfl | he
      · simpa [answerEnds] using hlen
      · exact absurd hr (hrest e he)
    · rwa [timeOldRead_head hold hage] at timed
  case check =>
    intro d w idx a len bad m e fenced holds
    have fenced_iff (hbad : ¬bad) : descFenced d w = true ↔ fenced := by
      have hlen : 1 ≤ d.length.toNat := by omega
      rw [descFenced_iff, descEnd_eq hlen]
      rfl
    refine ⟨fun hbad => ?malformed, fun hbad hfence => ?fence, fun hbad hfence => ?good⟩
    case malformed =>
      exact descEntry_fault idx (by simp [descCheck, (descMalformed_iff d).mpr hbad])
    case fence =>
      have hm := mt (descMalformed_iff d).mp hbad
      exact descEntry_fault idx (by simp [descCheck, hm, (fenced_iff hbad).mpr hfence])
    case good =>
      have hm := mt (descMalformed_iff d).mp hbad
      have hf := mt (fenced_iff hbad).mp hfence
      exact descEntry_good idx (by simp [descCheck, hm, hf])

end Sys2Proof.Machine
end

