-- ==== Sys2Proof/Proofs/Frames.lean ====
section
/-! SUPPORT. What no occurrence touches: the queue of commands and the tick's place, and, but for SYNC edges, epoch
loads, host writes of the timebase and resets, the timebase. One lemma per operation, in the order of the model. -/

namespace Sys2Proof.Machine

/-- The queue of commands and the tick's place are the same in t as in s. -/
@[simp] abbrev KeepsPlace (t s : State) : Prop := t.pending = s.pending ∧ t.pos = s.pos

/-- The queue of commands, the tick's place and the timebase are the same in t as in s. -/
@[simp] abbrev KeepsClock (t s : State) : Prop := t.pending = s.pending ∧ t.pos = s.pos ∧ t.tb = s.tb

theorem KeepsClock.refl (s : State) : KeepsClock s s := ⟨rfl, rfl, rfl⟩

theorem KeepsClock.trans {u t s : State} (h : KeepsClock u t) (k : KeepsClock t s) : KeepsClock u s :=
  ⟨h.1.trans k.1, h.2.1.trans k.2.1, h.2.2.trans k.2.2⟩

theorem KeepsClock.place {t s : State} (h : KeepsClock t s) : KeepsPlace t s := ⟨h.1, h.2.1⟩

/-- An operation that is carried out under a condition keeps the clock when it does. -/
theorem KeepsClock.ite {p : Prop} [Decidable p] {t s : State} (h : KeepsClock t s) :
    KeepsClock (if p then t else s) s := by
  split
  · exact h
  · exact .refl s

/-- A row of operations that each keep the clock keeps it. -/
theorem foldl_keepsClock {α : Type} {f : State → α → State} (h : ∀ s a, KeepsClock (f s a) s) (l : List α)
    (s : State) : KeepsClock (l.foldl f s) s := by
  induction l generalizing s with
  | nil => exact .refl s
  | cons a l ih => exact (ih (f s a)).trans (h s a)

/-! ### Release and queues -/

@[simp] theorem shedTest_keepsClock (b : Bool) (s : State) : KeepsClock (shedTest b s) s := by
  unfold shedTest; split
  · cases b <;> simp
  · simp

@[simp] theorem releaseChain_keepsClock (r : Fin 16) (c : List Nat) (s : State) :
    KeepsClock (releaseChain r c s) s := by
  simp [releaseChain]

@[simp] theorem loseMarks_keepsClock (n : Fin 4) (m : Bool) (s : State) : KeepsClock (loseMarks n m s) s := by
  cases m <;> simp [loseMarks]

@[simp] theorem dropHead_keepsClock (r : Fin 16) (lost : Bool) (s : State) : KeepsClock (dropHead r lost s) s := by
  unfold dropHead; split <;> simp

/-! ### Route moves -/

@[simp] theorem enterRunning_keepsClock (r : Fin 16) (s : State) : KeepsClock (enterRunning r s) s := by
  simp [enterRunning]

@[simp] theorem startRoute_keepsClock (r : Fin 16) (line : Option (Fin 4)) (s : State) :
    KeepsClock (startRoute r line s) s := by
  simp [startRoute]

@[simp] theorem enterStopping_keepsClock (r : Fin 16) (s : State) : KeepsClock (enterStopping r s) s := by
  simp [enterStopping]

@[simp] theorem triggerRoute_keepsClock (n : Fin 4) (t : Trig) (s : State) (r : Fin 16) :
    KeepsClock (triggerRoute n t s r) s := by
  unfold triggerRoute
  split
  · split <;> simp
  · split <;> simp
  · simp

/-! ### Classification and admission -/

@[simp] theorem storeBody_keepsClock (n : Fin 4) (k : Nat) (bytes : List Byte) (s : State) :
    KeepsClock (storeBody n k bytes s) s := by
  unfold storeBody
  split
  · split <;> simp
  · simp

@[simp] theorem dropFrame_keepsClock (n : Fin 4) (s : State) : KeepsClock (dropFrame n s) s := by
  unfold dropFrame; split <;> simp

@[simp] theorem refuse_keepsClock (n : Fin 4) (r : Fin 16) (c : RouteCtr) (s : State) :
    KeepsClock (refuse n r c s) s := by
  simp [refuse]

@[simp] theorem evictOldest_keepsClock (r : Fin 16) (s : State) : KeepsClock (evictOldest r s) s := by
  unfold evictOldest; split <;> simp

@[simp] theorem evictWhile_keepsClock (more : State → Bool) (r : Fin 16) (k : Nat) (s : State) :
    KeepsClock (evictWhile more r k s) s := by
  induction k generalizing s with
  | zero => exact .refl s
  | succ k ih =>
    unfold evictWhile
    split
    · exact (ih _).trans (evictOldest_keepsClock r s)
    · exact .refl s

@[simp] theorem quotaEvict_keepsClock (r : Fin 16) (B : Nat) (s : State) : KeepsClock (quotaEvict r B s) s := by
  unfold quotaEvict; split <;> simp

@[simp] theorem retainEvict_keepsClock (r : Fin 16) (s : State) : KeepsClock (retainEvict r s) s := by
  unfold retainEvict; split <;> simp

@[simp] theorem refuseQuota_keepsClock (n : Fin 4) (r : Fin 16) (B : Nat) (s : State) :
    KeepsClock (refuseQuota n r B s) s := by
  unfold refuseQuota; split <;> simp

@[simp] theorem refuseThreshold_keepsClock (n : Fin 4) (r : Fin 16) (B : Nat) (s : State) :
    KeepsClock (refuseThreshold n r B s) s := by
  unfold refuseThreshold
  split
  · split <;> simp
  · split <;> simp

@[simp] theorem countBudget_keepsClock (n : Fin 4) (r : Fin 16) (s : State) : KeepsClock (countBudget n r s) s := by
  unfold countBudget
  dsimp only
  split
  · split <;> simp
  · simp

@[simp] theorem takeBlocks_keepsClock (B : Nat) (s : State) : KeepsClock (takeBlocks B s) s := .refl s

@[simp] theorem reserve_keepsClock (n : Fin 4) (t : Ticket) (B : Nat) (s : State) :
    KeepsClock (reserve n t B s) s := by
  unfold reserve
  cases (s.route t.route).high <;> simp

@[simp] theorem admitFrame_keepsClock (n : Fin 4) (L : Nat) (t : Ticket) (s : State) :
    KeepsClock (admitFrame n L t s) s := by
  unfold admitFrame
  dsimp only
  generalize blockNeed _ = B
  cases gateRefusal s t.route with
  | some c => simp
  | none =>
    dsimp only
    split
    · simp
    · split <;> simp

@[simp] theorem setEntry_keepsClock (s : State) (i : Fin 32) (e : MatchEntry) :
    KeepsClock (s.setEntry i e) s := .refl s

@[simp] theorem classify_keepsClock (n : Fin 4) (L : Nat) (head : List Byte) (s : State) :
    KeepsClock (classify n L head s) s := by
  unfold classify
  dsimp only
  split
  · split <;> simp
  · split <;> simp

@[simp] theorem seqCheck_keepsClock (n : Fin 4) (t : Ticket) (v : FcsVerdict) (s : State) :
    KeepsClock (seqCheck n t v s).1 s := by
  unfold seqCheck
  dsimp only
  split
  · simp
  · split <;> simp

@[simp] theorem discardFrame_keepsClock (n : Fin 4) (f : FrameCtx) (t : Ticket) (c : RouteCtr) (s : State) :
    KeepsClock (discardFrame n f t c s) s := by
  simp [discardFrame, closeFrame]

@[simp] theorem commitFrame_keepsClock (n : Fin 4) (f : FrameCtx) (t : Ticket) (L : Nat) (v : FcsVerdict)
    (q : SeqVerdict) (s : State) : KeepsClock (commitFrame n f t L v q s) s := by
  simp [commitFrame, closeFrame]

@[simp] theorem finalize_keepsClock (n : Fin 4) (f : FrameCtx) (t : Ticket) (L : Nat) (v : FcsVerdict) (s : State) :
    KeepsClock (finalize n f t L v s) s := by
  unfold finalize
  dsimp only
  split
  · simp
  · split <;> simp

/-! ### The synchronizer -/

@[simp] theorem frameStart_keepsClock (n : Fin 4) (coast : Bool) (s : State) : KeepsClock (frameStart n coast s) s := by
  simp [frameStart]

@[simp] theorem acquireLock_keepsClock (n : Fin 4) (s : State) : KeepsClock (acquireLock n s) s := by
  simp [acquireLock]

@[simp] theorem loseLock_keepsClock (n : Fin 4) (s : State) : KeepsClock (loseLock n s) s := by
  simp [loseLock]

@[simp] theorem syncFoundAt_keepsClock (n : Fin 4) (s : State) : KeepsClock (syncFoundAt n s) s := by
  unfold syncFoundAt
  dsimp only
  split
  · split
    · split <;> simp
    · simp
  · simp

@[simp] theorem syncPositionAt_keepsClock (n : Fin 4) (s : State) : KeepsClock (syncPositionAt n s) s := by
  unfold syncPositionAt
  dsimp only
  split
  · split
    · split
      · split <;> simp
      · simp
    · split
      · simp
      · split <;> simp
    · split
      · simp
      · split <;> simp
    · simp
  · simp

@[simp] theorem lengthError_keepsClock (n : Fin 4) (L : Int) (s : State) : KeepsClock (lengthError n L s) s := by
  unfold lengthError
  dsimp only
  split <;> simp

@[simp] theorem headerKnown_keepsClock (n : Fin 4) (L : Nat) (head : List Byte) (s : State) :
    KeepsClock (headerKnown n L head s) s := by
  unfold headerKnown
  dsimp only
  split <;> simp

@[simp] theorem headerExtentAt_keepsClock (n : Fin 4) (s : State) : KeepsClock (headerExtentAt n s) s := by
  unfold headerExtentAt
  dsimp only
  split
  · split
    · split
      · split <;> simp
      · simp
    · simp
  · simp

@[simp] theorem frameEndAt_keepsClock (n : Fin 4) (s : State) : KeepsClock (frameEndAt n s) s := by
  unfold frameEndAt
  dsimp only
  split
  · split
    · rename_i f _ _
      cases f.fate <;> simp
    · simp
  · simp

@[simp] theorem flipAt_keepsClock (n : Fin 4) (s : State) : KeepsClock (flipAt n s) s := by
  unfold flipAt; split <;> simp

@[simp] theorem settleSync_keepsClock (n : Fin 4) (s : State) : KeepsClock (settleSync n s) s := by
  simp [settleSync]

@[simp] theorem settleLane_keepsClock (n : Fin 4) (s : State) : KeepsClock (settleLane n s) s := by
  simp [settleLane]

@[simp] theorem flipRow_keepsClock (n : Fin 4) (s : State) : KeepsClock (flipRow n s) s := by
  unfold flipRow; split <;> simp

@[simp] theorem bodyByte_keepsClock (n : Fin 4) (b : Byte) (s : State) : KeepsClock (bodyByte n b s) s := by
  unfold bodyByte
  dsimp only
  split <;> simp

@[simp] theorem phaseBit_keepsClock (n : Fin 4) (b : Bool) (s : State) : KeepsClock (phaseBit n b s) s := by
  unfold phaseBit
  dsimp only
  split
  · simp
  · split
    · simp
    · split <;> simp

@[simp] theorem handBit_keepsClock (n : Fin 4) (b : Bool) (s : State) : KeepsClock (handBit n b s) s := by
  unfold handBit
  dsimp only
  split <;> simp

@[simp] theorem abandon_keepsClock (n : Fin 4) (s : State) : KeepsClock (abandon n s) s := by
  obtain ⟨sh, ev, trigs, h, -⟩ := abandon_frame n s
  simp [h]

/-! ### The lane receivers -/

@[simp] theorem disableLane_keepsClock (n : Fin 4) (s : State) : KeepsClock (disableLane n s) s := by
  simp [disableLane]

@[simp] theorem enableLane_keepsClock (n : Fin 4) (report : Bool) (s : State) :
    KeepsClock (enableLane n report s).1 s := by
  unfold enableLane
  dsimp only
  split
  · simp
  · cases report <;> simp

@[simp] theorem refuseWrite_keepsClock (report : Bool) (source : Byte) (offset : Nat) (data : Word) (s : State) :
    KeepsClock (refuseWrite report source offset data s) s := by
  cases report <;> simp [refuseWrite]

@[simp] theorem writeLaneReg_keepsClock (n : Fin 4) (reg : LaneReg) (data : Word) (report : Bool) (s : State) :
    KeepsClock (writeLaneReg n reg data report s).1 s := by
  unfold writeLaneReg
  dsimp only
  split
  · split
    · split <;> simp
    · split <;> split <;> simp
  · split <;> simp

@[simp] theorem writeLinjc_keepsClock (n : Fin 4) (data : Word) (s : State) : KeepsClock (writeLinjc n data s) s := by
  unfold writeLinjc
  dsimp only
  split <;> simp

@[simp] theorem writeLinj_keepsClock (n : Fin 4) (data : Word) (s : State) : KeepsClock (writeLinj n data s) s := by
  unfold writeLinj
  dsimp only
  split
  · split <;> simp
  · simp

@[simp] theorem clockLostAt_keepsClock (n : Fin 4) (s : State) : KeepsClock (clockLostAt n s) s := by
  unfold clockLostAt; split <;> simp

@[simp] theorem clockRestoredAt_keepsClock (n : Fin 4) (s : State) : KeepsClock (clockRestoredAt n s) s := by
  unfold clockRestoredAt; split <;> simp

@[simp] theorem clockEdge_keepsClock (n : Fin 4) (rising level : Bool) (s : State) :
    KeepsClock (clockEdge n rising level s) s := by
  unfold clockEdge
  dsimp only
  split
  · split <;> simp
  · simp

@[simp] theorem feedAt_keepsClock (n : Fin 4) (s : State) : KeepsClock (feedAt n s) s := by
  unfold feedAt
  dsimp only
  split
  · split <;> simp
  · simp

/-! ### The timebase and the trigger port -/

theorem armedLoad_keepsPlace (s : State) : KeepsPlace (armedLoad s) s := by
  unfold armedLoad; split <;> simp [loadEpoch]

theorem actSync_keepsPlace (s : State) : KeepsPlace (actSync s) s := by
  unfold actSync
  dsimp only
  split <;> split <;> simp [armedLoad_keepsPlace]

theorem sampleSync_keepsPlace (level : Bool) (s : State) : KeepsPlace (sampleSync level s) s := by
  unfold sampleSync acceptSync
  dsimp only
  split
  · simp
  · split
    · simp
    · split
      · split <;> simp [actSync_keepsPlace]
      · simp

theorem syncMissingAt_keepsPlace (s : State) : KeepsPlace (syncMissingAt s) s := by
  unfold syncMissingAt; split <;> simp

@[simp] theorem periodicTickAt_keepsClock (s : State) : KeepsClock (periodicTickAt s) s := by
  unfold periodicTickAt; split <;> simp

@[simp] theorem applyMarks_keepsClock (n : Fin 4) (s : State) : KeepsClock (applyMarks n s) s :=
  foldl_keepsClock (fun s k => by split <;> simp) _ s

@[simp] theorem applyRoutes_keepsClock (n : Fin 4) (s : State) : KeepsClock (applyRoutes n s) s :=
  foldl_keepsClock (fun s r => triggerRoute_keepsClock n (s.trig n) s r) _ s

@[simp] theorem actTrigger_keepsClock (n : Fin 4) (rising : Bool) (s : State) :
    KeepsClock (actTrigger n rising s) s := by
  unfold actTrigger
  dsimp only
  split <;> simp

@[simp] theorem sampleTrigger_keepsClock (n : Fin 4) (level : Bool) (s : State) :
    KeepsClock (sampleTrigger n level s) s := by
  unfold sampleTrigger acceptTrigger
  dsimp only
  split
  · split
    · simp
    · split
      · split <;> simp
      · simp
  · simp

@[simp] theorem writeTrig_keepsClock (n : Fin 4) (reg : TrigReg) (data : Word) (s : State) :
    KeepsClock (writeTrig n reg data s) s := by
  cases reg with
  | tgcfg =>
    simp only [writeTrig]
    split <;> simp [clearLineMarks]
  | tgarg => simp [writeTrig]

@[simp] theorem pulseEndAt_keepsClock (n : Fin 4) (s : State) : KeepsClock (pulseEndAt n s) s := by
  unfold pulseEndAt
  dsimp only
  split <;> simp

/-! ### Resets -/

theorem writeDevctl_keepsPlace (data : Word) (allowReset : Bool) (s : State) :
    KeepsPlace (writeDevctl data allowReset s) s := by
  unfold writeDevctl
  dsimp only
  split <;> simp [deviceReset]

@[simp] theorem resetDoneAt_keepsClock (s : State) : KeepsClock (resetDoneAt s) s := by
  unfold resetDoneAt; split <;> simp

/-! ### Host accesses -/

@[simp] theorem hostRead_keepsClock (o : Nat) (s : State) : KeepsClock (hostRead o s) s := by
  unfold hostRead
  dsimp only
  split <;> simp

@[simp] theorem writeRouteReg_keepsClock (r : Fin 16) (reg : RouteReg) (data : Word) (report : Bool) (s : State) :
    KeepsClock (writeRouteReg r reg data report s).1 s := by
  unfold writeRouteReg
  dsimp only
  split <;> simp

@[simp] theorem writeWindow_keepsClock (w : Fin 4) (reg : WindowReg) (data : Word) (report : Bool) (s : State) :
    KeepsClock (writeWindow w reg data report s).1 s := by
  unfold writeWindow; split <;> simp

@[simp] theorem writeCrbase_keepsClock (h : BaseHalf) (data : Word) (report : Bool) (s : State) :
    KeepsClock (writeCrbase h data report s).1 s := by
  unfold writeCrbase; split <;> simp

@[simp] theorem writeCrcfg_keepsClock (data : Word) (report : Bool) (s : State) :
    KeepsClock (writeCrcfg data report s).1 s := by
  unfold writeCrcfg
  dsimp only
  split
  · split
    · split <;> simp
    · simp
  · simp

@[simp] theorem writeRpost_keepsClock (r : Fin 16) (data : Word) (s : State) :
    KeepsClock (writeRpost r data s) s := by
  unfold writeRpost
  dsimp only
  split <;> simp

@[simp] theorem writeCrcons_keepsClock (data : Word) (s : State) : KeepsClock (writeCrcons data s) s := by
  unfold writeCrcons
  dsimp only
  split
  · split <;> simp
  · simp

@[simp] theorem writeIntstat_keepsClock (data : Word) (s : State) : KeepsClock (writeIntstat data s) s := by
  unfold writeIntstat
  dsimp only
  split <;> simp

@[simp] theorem offerCmd_keepsClock (c : Cmd) (s : State) : KeepsClock (offerCmd c s) s := by
  unfold offerCmd; split <;> simp

/-- The write of a register keeps the place; the timebase's own registers and DEVCTL change the timebase. -/
theorem writeReg_keepsPlace (report : Bool) (data : Word) (s : State) (r : Reg) :
    KeepsPlace (writeReg report data s r).1 s := by
  cases r with
  | devctl => exact writeDevctl_keepsPlace data report s
  | _ => simp [writeReg, writeCmpmod, writeBshed, writeBstat, popEvent]

theorem hostWriteReg_keepsPlace (r : Reg) (data : Word) (s : State) : KeepsPlace (hostWriteReg r data s) s := by
  unfold hostWriteReg
  split
  · exact writeReg_keepsPlace true data s r
  · simp

theorem hostWrite_keepsPlace (o : Nat) (data : Word) (s : State) : KeepsPlace (hostWrite o data s) s := by
  unfold hostWrite
  split
  · exact hostWriteReg_keepsPlace _ data s
  · simp

@[simp] theorem refuseAccess_keepsClock (offset : BitVec 12) (write : Bool) (bytes : BitVec 4) (data : Word)
    (s : State) : KeepsClock (refuseAccess offset write bytes data s) s := by
  unfold refuseAccess
  cases write <;> simp only [Bool.false_eq_true, if_true, if_false]
  · split <;> simp
  · split <;> simp

theorem access_keepsPlace (offset : BitVec 12) (write : Bool) (bytes : BitVec 4) (multi : Bool) (data : Word)
    (s : State) : KeepsPlace (access offset write bytes multi data s) s := by
  unfold access
  split
  · simp
  · split
    · exact hostWrite_keepsPlace _ data s
    · simp

/-! ### The delivery engine -/

/-- An engine step keeps the clock when its effect does. -/
theorem engineStep_keepsClock {f : State → State} {s : State} (h : KeepsClock (f s) s) :
    KeepsClock (engineStep f s) s := by
  unfold engineStep
  split
  · exact .refl s
  · exact h

@[simp] theorem fetch_keepsClock (r : Fin 16) (s : State) : KeepsClock (fetch r s) s := by
  unfold fetch
  dsimp only
  split <;> simp

@[simp] theorem readDone_keepsClock (r : Fin 16) (answer : ReadAnswer) (s : State) :
    KeepsClock (readDone r answer s) s := by
  unfold readDone
  split
  · simp [endOldRead]
  · split
    · split <;> simp [endRead]
    · simp

@[simp] theorem readTimeout_keepsClock (r : Fin 16) (s : State) : KeepsClock (readTimeout r s) s := by
  unfold readTimeout
  split
  · unfold timeOldRead
    dsimp only
    split <;> simp
  · split
    · split <;> simp [endRead]
    · simp

@[simp] theorem haltRoute_keepsClock (r : Fin 16) (f : DescFault) (idx : Nat) (s : State) :
    KeepsClock (haltRoute r f idx s) s := by
  simp [haltRoute]

@[simp] theorem openBuffer_keepsClock (r : Fin 16) (s : State) : KeepsClock (openBuffer r s) s := by
  unfold openBuffer
  split
  · split
    · simp
    · split <;> simp
  · simp

@[simp] theorem closeBuffer_keepsClock (r : Fin 16) (reason : Reason) (s : State) :
    KeepsClock (closeBuffer r reason s) s := by
  simp [closeBuffer]

@[simp] theorem takeTurn_keepsClock (r : Fin 16) (x : Record) (b : Buffer) (s : State) :
    KeepsClock (takeTurn r x b s) s := by
  unfold takeTurn
  split
  · simp [oversizeRecord]
  · split <;> simp [startRecord]

@[simp] theorem placeTurn_keepsClock (s : State) : KeepsClock (placeTurn s) s := by
  unfold placeTurn
  split
  · split
    · simp
    · dsimp only
      split <;> simp
  · simp

@[simp] theorem finishRecord_keepsClock (r : Fin 16) (x : Record) (s : State) :
    KeepsClock (finishRecord r x s) s := by
  simp [finishRecord]

@[simp] theorem payloadOne_keepsClock (p : InProgress) (s : State) : KeepsClock (payloadOne p s) s := by
  unfold payloadOne
  split
  · dsimp only
    split <;> simp
  · simp

@[simp] theorem payloadLoop_keepsClock (k : Nat) (s : State) : KeepsClock (payloadLoop k s) s := by
  induction k generalizing s with
  | zero => exact .refl s
  | succ k ih =>
    unfold payloadLoop
    split
    · exact .refl s
    · exact (ih _).trans (payloadOne_keepsClock _ s)

@[simp] theorem continueRecord_keepsClock (k : Nat) (s : State) : KeepsClock (continueRecord k s) s := by
  unfold continueRecord; split <;> simp

@[simp] theorem tryClose_keepsClock (due : Bool) (reason : Reason) (r : Fin 16) (s : State) :
    KeepsClock (tryClose due reason r s) s := by
  unfold tryClose
  split
  · simp
  · split <;> simp

@[simp] theorem postEntry_keepsClock (e : Completion) (s : State) : KeepsClock (postEntry e s) s := .refl s

@[simp] theorem joinBacklog_keepsClock (e : Completion) (s : State) : KeepsClock (joinBacklog e s) s := by
  unfold joinBacklog
  dsimp only
  split <;> simp

/-- Making an entry keeps the clock when what it does to the route does. -/
theorem makeEntry_keepsClock (e : Completion) {made : State → State} {s : State} (h : KeepsClock (made s) s) :
    KeepsClock (makeEntry e made s) s := by
  rcases makeEntry_cases e made s with ⟨eq, -⟩ | ⟨eq, -⟩ | ⟨eq, -⟩ <;> rw [eq]
  · exact (joinBacklog_keepsClock e _).trans h
  · exact (postEntry_keepsClock e _).trans h
  · exact .refl s

@[simp] theorem completeBuffer_keepsClock (r : Fin 16) (s : State) : KeepsClock (completeBuffer r s) s := by
  unfold completeBuffer
  split
  · split
    · split
      · simp
      · exact makeEntry_keepsClock _ (by simp)
    · simp
  · simp

@[simp] theorem cancelOne_keepsClock (r : Fin 16) (s : State) : KeepsClock (cancelOne r s) s := by
  unfold cancelOne
  split
  · exact makeEntry_keepsClock _ (by simp)
  · simp

@[simp] theorem drainLoop_keepsClock (k : Nat) (s : State) : KeepsClock (drainLoop k s) s := by
  induction k generalizing s with
  | zero => exact .refl s
  | succ k ih =>
    unfold drainLoop
    split
    · exact .refl s
    · split
      · dsimp only
        split
        · simp
        · exact (ih _).trans (postEntry_keepsClock _ _)
      · exact .refl s

@[simp] theorem closeRoute_keepsClock (r : Fin 16) (how : Word) (s : State) : KeepsClock (closeRoute r how s) s := by
  simp [closeRoute]

@[simp] theorem enterQuiesced_keepsClock (s : State) : KeepsClock (enterQuiesced s) s := by
  simp [enterQuiesced]

/-! ### Commands -/

@[simp] theorem endCmd_keepsClock (c : Cmd) (res : Result) (b : Word) (s : State) :
    KeepsClock (endCmd c res b s) s := .refl s

/-- The command step keeps the place when the command's owner does. -/
theorem runCmd_keepsPlace {op : Byte} {owner : Cmd → State → State} {s : State}
    (h : ∀ c, KeepsPlace (owner c s) s) : KeepsPlace (runCmd op owner s) s := by
  unfold runCmd
  split
  · split
    · split
      · exact h _
      · simp
    · simp
  · simp

@[simp] theorem snapLane_keepsClock (clear : Bool) (n : Fin 4) (s : State) : KeepsClock (snapLane clear n s) s := by
  cases clear <;> simp [snapLane]

@[simp] theorem snapRoute_keepsClock (clear : Bool) (r : Fin 16) (s : State) :
    KeepsClock (snapRoute clear r s) s := by
  cases clear <;> simp [snapRoute]

@[simp] theorem snapCounters_keepsClock (target : Nat) (clear : Bool) (s : State) :
    KeepsClock (snapCounters target clear s) s := by
  unfold snapCounters
  split
  · simp
  · split
    · simp
    · exact (foldl_keepsClock (fun s r => snapRoute_keepsClock clear r s) _ _).trans
        (foldl_keepsClock (fun s n => snapLane_keepsClock clear n s) _ _)

@[simp] theorem runSnapshot_keepsClock (c : Cmd) (s : State) : KeepsClock (runSnapshot c s) s := by
  simp [runSnapshot]

@[simp] theorem runUnknown_keepsClock (s : State) : KeepsClock (runUnknown s) s := by
  unfold runUnknown
  split
  · split <;> simp
  · simp

/-- A route command keeps the clock when its effect does. -/
theorem runRouteCmd_keepsClock {act : Fin 16 → State → State × Result} {s : State}
    (h : ∀ r, KeepsClock (act r s).1 s) (c : Cmd) : KeepsClock (runRouteCmd act c s) s :=
  (endCmd_keepsClock c _ _ _).trans (h c.route)

@[simp] theorem armRoute_keepsClock (r : Fin 16) (s : State) : KeepsClock (armRoute r s).1 s := by
  unfold armRoute
  split
  · split <;> simp
  all_goals simp

@[simp] theorem startCmd_keepsClock (r : Fin 16) (s : State) : KeepsClock (startCmd r s).1 s := by
  unfold startCmd
  split
  · simp
  · split
    · split <;> simp
    all_goals simp

@[simp] theorem stopCmd_keepsClock (r : Fin 16) (s : State) : KeepsClock (stopCmd r s).1 s := by
  unfold stopCmd
  split
  · simp
  · split <;> simp
  all_goals simp

@[simp] theorem withdrawFrame_keepsClock (r : Fin 16) (s : State) (n : Fin 4) :
    KeepsClock (withdrawFrame r s n) s := by
  unfold withdrawFrame
  split
  · split
    · split <;> simp
    · simp
  · simp

@[simp] theorem discardAt_keepsClock (r : Fin 16) (keep : Nat) (s : State) : KeepsClock (discardAt r keep s) s := by
  unfold discardAt
  dsimp only
  split <;> simp

@[simp] theorem discardQueue_keepsClock (r : Fin 16) (keep k : Nat) (s : State) :
    KeepsClock (discardQueue r keep k s) s := by
  induction k generalizing s with
  | zero => exact .refl s
  | succ k ih => exact (ih _).trans (discardAt_keepsClock r keep s)

@[simp] theorem enterAborting_keepsClock (r : Fin 16) (s : State) : KeepsClock (enterAborting r s) s := by
  have withdrawn := foldl_keepsClock (withdrawFrame_keepsClock r) allLanes
    (s.modRoute r (fun t => { t with st := .aborting }))
  simpa [enterAborting] using withdrawn

@[simp] theorem abortCmd_keepsClock (r : Fin 16) (s : State) : KeepsClock (abortCmd r s).1 s := by
  unfold abortCmd
  split
  case h_5 =>
    split
    · simp
    · split <;> simp
  all_goals simp

@[simp] theorem resumeCmd_keepsClock (r : Fin 16) (s : State) : KeepsClock (resumeCmd r s).1 s := by
  unfold resumeCmd
  split
  · dsimp only
    split <;> simp
  · simp

@[simp] theorem flushCmd_keepsClock (r : Fin 16) (s : State) : KeepsClock (flushCmd r s).1 s := by
  unfold flushCmd
  split
  · split <;> simp
  · simp

@[simp] theorem runMatchWrite_keepsClock (c : Cmd) (s : State) : KeepsClock (runMatchWrite c s) s := by
  unfold runMatchWrite
  split <;> simp

@[simp] theorem runLaneResync_keepsClock (c : Cmd) (s : State) : KeepsClock (runLaneResync c s) s := by
  unfold runLaneResync
  dsimp only
  split <;> simp

@[simp] theorem runQuiesce_keepsClock (c : Cmd) (s : State) : KeepsClock (runQuiesce c s) s := by
  unfold runQuiesce; split <;> simp

@[simp] theorem runUnquiesce_keepsClock (c : Cmd) (s : State) : KeepsClock (runUnquiesce c s) s := by
  unfold runUnquiesce; split <;> simp

/-! ### The store controller -/

theorem applyPairs_keepsPlace (ps : List (Word × Word)) (s : State) : KeepsPlace (applyPairs ps s).1 s := by
  induction ps generalizing s with
  | nil => exact ⟨rfl, rfl⟩
  | cons p ps ih =>
    have one : KeepsPlace (applyPair p s).1 s := by
      unfold applyPair
      split
      · exact writeReg_keepsPlace false p.2 s _
      · simp
    exact ⟨(ih _).1.trans one.1, (ih _).2.trans one.2⟩

theorem judgeList_keepsPlace (ws : List Word) (s : State) : KeepsPlace (judgeList ws s).1 s := by
  unfold judgeList
  split
  · simp
  · exact applyPairs_keepsPlace _ s

@[simp] theorem recordOutcome_keepsClock (o : LoadOutcome) (s : State) : KeepsClock (recordOutcome o s) s := by
  cases o <;> simp [recordOutcome, postOutcome]

@[simp] theorem endBoot_keepsClock (o : LoadOutcome) (s : State) : KeepsClock (endBoot o s) s := by
  simp [endBoot]

@[simp] theorem endStoreCmd_keepsClock (res : Result) (b : Word) (s : State) :
    KeepsClock (endStoreCmd res b s) s := by
  unfold endStoreCmd; split <;> simp

@[simp] theorem endReload_keepsClock (o : LoadOutcome) (s : State) : KeepsClock (endReload o s) s := by
  simp [endReload]

@[simp] theorem endStoreWord_keepsClock (res : Result) (b : Word) (s : State) :
    KeepsClock (endStoreWord res b s) s := by
  simp [endStoreWord]

@[simp] theorem nextRead_keepsClock (word : Nat) (job : StoreJob) (s : State) :
    KeepsClock (nextRead word job s) s := .refl s

theorem operationEnds_keepsPlace (word : Nat) (data : Word) (s : State) :
    KeepsPlace (operationEnds word data s) s := by
  unfold operationEnds
  split
  · split <;> simp [endIdentity]
  · split
    · simp
    · simp [judgeList_keepsPlace]
  · simp
  · simp
  · split
    · simp
    · simp [judgeList_keepsPlace]
  all_goals simp

@[simp] theorem operationFails_keepsClock (word : Nat) (s : State) : KeepsClock (operationFails word s) s := by
  unfold operationFails
  split <;> simp

theorem opDone_keepsPlace (data : Word) (s : State) : KeepsPlace (opDone data s) s := by
  unfold opDone
  split
  · split
    · exact operationEnds_keepsPlace _ data s
    · simp
  · simp

@[simp] theorem opFail_keepsClock (s : State) : KeepsClock (opFail s) s := by
  unfold opFail
  split
  · split <;> simp
  · simp

@[simp] theorem bootStart_keepsClock (s : State) : KeepsClock (bootStart s) s := by
  unfold bootStart; split <;> simp

@[simp] theorem holdPort_keepsClock (word : Nat) (job : StoreJob) (s : State) :
    KeepsClock (holdPort word job s) s := .refl s

@[simp] theorem runStoreRead_keepsClock (c : Cmd) (s : State) : KeepsClock (runStoreRead c s) s := by
  unfold runStoreRead; split <;> simp

@[simp] theorem runStoreWrite_keepsClock (c : Cmd) (s : State) : KeepsClock (runStoreWrite c s) s := by
  unfold runStoreWrite
  split
  · simp
  · split <;> simp

@[simp] theorem runStoreLock_keepsClock (c : Cmd) (s : State) : KeepsClock (runStoreLock c s) s := by
  unfold runStoreLock
  dsimp only
  split
  · simp
  · split
    · simp
    · split <;> simp

@[simp] theorem runStoreReload_keepsClock (c : Cmd) (s : State) : KeepsClock (runStoreReload c s) s := by
  unfold runStoreReload; split <;> simp

/-! ### The interrupt unit -/

@[simp] theorem expireAt_keepsClock (s : State) : KeepsClock (expireAt s) s := by
  unfold expireAt; split <;> simp

@[simp] theorem releaseHeld_keepsClock (s : State) : KeepsClock (releaseHeld s) s := by
  unfold releaseHeld; split <;> simp

@[simp] theorem messageAt_keepsClock (s : State) : KeepsClock (messageAt s) s := by
  unfold messageAt askMessage
  dsimp only
  split
  · split <;> simp
  · simp

/-! ### The course of a tick -/

/-- As the tick moves on, the queue, the place and the timebase stay as they are. -/
@[simp] theorem passTo_keepsClock (k : Nat) (s : State) : KeepsClock (passTo k s) s := by
  have settled (ns : List (Fin 4)) := foldl_keepsClock (fun u n => settleLane_keepsClock n u) ns s
  unfold passTo
  dsimp only
  split <;> split <;> simp [settled]

@[simp] theorem evaluate_keepsClock (s : State) : KeepsClock (evaluate s) s := by
  simp [evaluate]

end Sys2Proof.Machine
end

