-- ==== Sys2Proof/Proofs/Scope.lean ====
section
/-! SUPPORT. The course of a tick and the turn of a command (R1): the statements O1, O2 and O3. -/

namespace Sys2Proof.Machine

/-- Settles O1: `step` matches on the queue, and the front command is its first branch. -/
theorem stepRunsTheFrontCommand : Obligations.StepRunsTheFrontCommand := by
  intro c rest s h
  simp only [step, h]

/-! ### The turn of a command -/

/-- The end of a tick keeps the queue. -/
@[simp] theorem tick_pending (s : State) : (tick s).pending = s.pending := by
  simp [tick, advanceTimers]

/-- The end of a tick counts it (R129). -/
@[simp] theorem tick_ref (s : State) : (tick s).tb.ref = s.tb.ref + 1 := by
  simp [tick, advanceTimers]

/-- The end of a tick counts on the SYNC watchdog (R134). -/
theorem tick_wdog (s : State) : (tick s).tb.wdog = s.tb.wdog + 1 := by
  simp [tick, advanceTimers]

/-- A command's turn keeps the queue behind it. -/
@[simp] theorem arrive_pending (c : Instr) (s : State) : (arrive c s).pending = s.pending := by
  unfold arrive tickFor
  cases inOrder c s <;> simp

/-- What `exec` gives every command: its turn, and then an effect that keeps the queue and the place. -/
theorem exec_keepsPlace (i : Instr) (s : State) : ∃ t, exec i s = .next t ∧ KeepsPlace t (arrive i s) := by
  cases i with
  | powerOnReset => exact ⟨_, rfl, rfl, rfl⟩
  | hostReset => exact ⟨_, rfl, rfl, rfl⟩
  | storeOperationDone => exact ⟨_, rfl, opDone_keepsPlace _ _⟩
  | accessError | registerWrite => exact ⟨_, rfl, access_keepsPlace _ _ _ _ _ _⟩
  | deviceReset | laneConfigWrite | laneEnable | laneDisable | linjWrite | tgcfgWrite | rpostWrite
  | routeConfigWrite | windowWrite | crbaseWrite | completionRingEnable | completionRingDisable | crconsWrite
  | bshedWrite | bstatWrite | evpop | complClear | cmpmodWrite | commandIssue =>
    exact ⟨_, rfl, hostWriteReg_keepsPlace _ _ _⟩
  | syncEdge => exact ⟨_, rfl, sampleSync_keepsPlace _ _⟩
  | syncMissing => exact ⟨_, rfl, syncMissingAt_keepsPlace _⟩
  | acceptedTransition input level =>
    cases input with
    | sync => exact ⟨_, rfl, sampleSync_keepsPlace _ _⟩
    | trig n => exact ⟨_, rfl, (sampleTrigger_keepsClock n level _).place⟩
  | nop | matchWrite | laneResync | counterSnapshot | epochLoadNow | storeRead | storeWrite | storeLock
  | storeReload | quiesce | unquiesce =>
    exact ⟨_, rfl, runCmd_keepsPlace fun c => by simp [runNop, runEpochLoad, loadEpoch]⟩
  | routeArm | routeStart | routeStop | routeAbort | routeResume | routeFlush =>
    exact ⟨_, rfl, runCmd_keepsPlace fun c => (runRouteCmd_keepsClock (fun r => by simp) c).place⟩
  | descriptorFetch | bufferOpen | recordPlace | payloadWrite | lingerExpiry | bufferCloseStop
  | bufferCloseQuiesce | completionEntry | cancelEntry | backlogDrain =>
    exact ⟨_, rfl, (engineStep_keepsClock (by simp)).place⟩
  | routeDrained | routeAbortDone | quiesced =>
    exact ⟨_, rfl, (engineStep_keepsClock (.ite (by simp))).place⟩
  | interruptMessage => exact ⟨_, rfl, by dsimp only; split <;> simp⟩
  | _ => exact ⟨_, rfl, by simp⟩

/-- Settles O3: every command takes its turn, which keeps the queue, and then keeps queue and place. -/
theorem everyCommandRunsAndKeepsTheQueue : Obligations.EveryCommandRunsAndKeepsTheQueue := by
  intro i s
  obtain ⟨t, hexec, hpending, hpos⟩ := exec_keepsPlace i s
  exact ⟨t, hexec, hpending.trans (arrive_pending i s), hpos⟩

/-! ### The course of a tick -/

/-- Moving on to a slot, with the numbers of the slots and what each lane's bit caused written out. -/
theorem passTo_eq (k : Nat) (s : State) :
    passTo k s =
      (let u :=
        if s.ctl.resetBusy then s
        else
          (allLanes.filter (fun n => decide (3002 + 100 * n.val < k))).foldl
            (fun u n => flipAt n (syncFoundAt n (syncPositionAt n (frameEndAt n (headerExtentAt n u))))) s
      if 7000 ≤ k ∧ u.irq.held = true ∧ u.host.masterEn = true then
        { u with irq := { u.irq with held := false }, bus := u.bus ++ [.message] }
      else u) := by
  have slots (n : Fin 4) : laneSlot n 2 = 3002 + 100 * n.val := by unfold laneSlot slotKey; omega
  simp only [passTo, slots, releaseHeld, Bool.and_eq_true, ite_and]
  rfl

/-- Evaluating the request asks for a message at most, and leaves the rest of the machine alone (R154, R155). -/
theorem messageAt_frame (s : State) : ∃ asked held bus,
    messageAt s = { s with irq := { s.irq with asked := asked, held := held }, bus := bus } := by
  unfold messageAt askMessage
  split
  · dsimp only
    split
    · exact ⟨true, s.irq.held, s.bus ++ [.message], rfl⟩
    · exact ⟨true, true, s.bus, rfl⟩
  · exact ⟨s.irq.asked, s.irq.held, s.bus, rfl⟩

/-- The evaluation of step 8 as one change of the state. -/
theorem evaluate_frame (s : State) : ∃ held bus,
    evaluate s =
      { s with
        irq :=
          { s.irq with
            held := held, prevReq := intRequest s, asked := false, intl := intRequest s && !s.host.intMode }
        bus := bus } := by
  obtain ⟨asked, held, bus, h⟩ := messageAt_frame s
  exact ⟨held, bus, by simp only [evaluate, h]⟩

/-- A slot of any step of R1 lies behind the beginning of the tick. -/
@[simp] theorem slotKey_pos {step : Nat} (h : 0 < step) (part place : Nat) : 0 < slotKey step part place := by
  unfold slotKey; omega

@[simp] theorem laneSlot_pos (n : Fin 4) (place : Nat) : 0 < laneSlot n place := by simp [laneSlot]

@[simp] theorem edgeSlot_pos (s : State) (n : Fin 4) : 0 < edgeSlot s n := by
  unfold edgeSlot
  split
  · next h => exact (laneSlot_pos n 0).trans_le h.1
  · simp

@[simp] theorem payloadSlot_pos (s : State) : 0 < payloadSlot s := by
  unfold payloadSlot; split <;> simp

/-- Payload writes have their slot behind every route's buffer opening and ahead of every fetch (R108). -/
theorem payloadSlot_between (s : State) : slotKey 7 6 15 < payloadSlot s ∧ payloadSlot s < slotKey 7 8 0 := by
  unfold payloadSlot
  split
  · exact (by decide : slotKey 7 6 15 < slotKey 7 7 2 ∧ slotKey 7 7 2 < slotKey 7 8 0)
  · exact (by decide : slotKey 7 6 15 < slotKey 7 7 0 ∧ slotKey 7 7 0 < slotKey 7 8 0)

/-- Every command's slot lies behind the beginning of the tick. -/
theorem slot_pos (s : State) (c : Instr) : 0 < slot s c := by
  cases c with
  | storeOperationDone | storeOperationFail | laneBitSampled | interruptMessage =>
    simp only [slot, engineStart]
    split <;> simp
  | acceptedTransition i level => cases i <;> simp [slot]
  | _ => simp [slot]

/-- At the beginning of a tick every command can still come. -/
theorem inOrder_tick (c : Instr) (s : State) : inOrder c (tick s) = true := by
  have h : (tick s).pos = 0 := rfl
  simp [inOrder, h, slot_pos]

/-- A command whose slot has passed takes its turn in the next tick. -/
theorem arrive_late {c : Instr} {s : State} (h : inOrder c s = false) : arrive c s = arrive c (tick s) := by
  simp [arrive, tickFor, h, inOrder_tick]

/-- The counter at a command's turn (R129). -/
theorem arrive_ref (c : Instr) (s : State) :
    (arrive c s).tb.ref = if inOrder c s then s.tb.ref else s.tb.ref + 1 := by
  unfold arrive tickFor
  cases inOrder c s <;> simp

/-- A polarity flip acts alone where the lane's last bit has nothing else left to complete (R44). -/
theorem flipRow_alone {n : Fin 4} {s : State} (hh : (s.lane n).headerDue = false)
    (hf : (s.lane n).frameEndDue = false) (hp : (s.lane n).positionDue = false) (hc : (s.lane n).cmpDue = false) :
    flipRow n s = flipAt n s := by
  have settled : settleSync n s = s := by
    simp [settleSync, headerExtentAt, frameEndAt, syncPositionAt, syncFoundAt, hh, hf, hp, hc]
  unfold flipRow
  rw [settled]
  split
  · rfl
  · next h => simp [flipAt, h]

/-! ### The service order -/

/-- The commands of the listed steps, in the order of R1 and R108. -/
def serviceOrder (o : BitVec 12) (data : Word) (up : Bool) : List Instr :=
  [Instr.hostReset, Instr.registerWrite o data]
    ++ allLanes.flatMap (fun n => [Instr.injectBitFeed n, Instr.frameEnd n])
    ++ allLanes.map (fun n => Instr.triggerEdge n up)
    ++ [Instr.syncEdge up, Instr.syncMissing, Instr.periodicTick, Instr.nop]
    ++ allRoutes.map Instr.descriptorReadTimeout ++ [Instr.backlogDrain]
    ++ allRoutes.flatMap (fun r => [Instr.lingerExpiry r, Instr.bufferCloseStop r, Instr.bufferCloseQuiesce r])
    ++ allRoutes.map Instr.completionEntry ++ allRoutes.map Instr.cancelEntry ++ allRoutes.map Instr.routeDrained
    ++ allRoutes.map Instr.bufferOpen ++ [Instr.recordPlace] ++ allRoutes.map Instr.descriptorFetch
    ++ [Instr.quiesced, Instr.moderationTimerExpiry] ++ allLanes.map Instr.pulseEnd

/-- The numbers of their slots. -/
def serviceSlots : List Nat :=
  [1000, 2100] ++ allLanes.flatMap (fun n => [3000 + n.val * 100 + 1, 3000 + n.val * 100 + 2])
    ++ allLanes.map (fun n => 4000 + n.val) ++ [5000, 5100, 5200, 6000]
    ++ allRoutes.map (fun r => 7100 + r.val) ++ [7200]
    ++ allRoutes.flatMap (fun r => [7300 + 4 * r.val, 7300 + (4 * r.val + 1), 7300 + (4 * r.val + 2)])
    ++ allRoutes.map (fun r => 7400 + r.val) ++ allRoutes.map (fun r => 7400 + (16 + r.val))
    ++ allRoutes.map (fun r => 7500 + r.val)
    ++ allRoutes.map (fun r => 7600 + r.val) ++ [7701] ++ allRoutes.map (fun r => 7800 + r.val)
    ++ [7900, 8000] ++ allLanes.map (fun n => 9000 + n.val)

theorem slots_serviceOrder (o : BitVec 12) (data : Word) (up : Bool) (s : State) :
    (serviceOrder o data up).map (slot s) = serviceSlots := by
  simp [serviceOrder, serviceSlots, slot, laneSlot, slotKey, List.map_flatMap, Function.comp_def]

/-- The slots of the service order ascend: each is behind the one ahead of it. -/
theorem serviceSlots_ascend : serviceSlots.Pairwise (· < ·) :=
  List.isChain_iff_pairwise.mp (by decide +kernel)

/-- The end of a tick on the state u in which all its slots are over: what each count, each pin and the request
become. -/
theorem advance_evaluate (u : State) :
    let t := advanceTimers (evaluate u)
    t.irq.asked = false ∧ t.irq.prevReq = intRequest u ∧ t.irq.intl = (intRequest u && !u.host.intMode)
      ∧ t.irq.modTimer = u.irq.modTimer.map (· + 1)
      ∧ (∀ n, t.trig n = (u.trig n).endTick)
      ∧ (∀ n, t.lane n = if u.ctl.resetBusy then u.lane n else (u.lane n).countTick)
      ∧ (∀ r, t.route r = (u.route r).countTick)
      ∧ t.ctl.oldReads = u.ctl.oldReads.map (fun e => { e with age := e.age + 1 })
      ∧ t.store = { u.store with op := u.store.op.map (fun o => { o with age := o.age + 1 }) } := by
  obtain ⟨held, bus, h⟩ := evaluate_frame u
  rw [h]
  refine ⟨rfl, rfl, rfl, rfl, fun n => ?_, fun n => ?_, fun r => ?_, rfl, rfl⟩
  · exact getElem_mapVec _ _ _ _
  · simp only [advanceTimers, State.lane]
    split
    · rfl
    · exact getElem_mapVec _ _ _ _
  · exact getElem_mapVec _ _ _ _

/-- The level of an output's pin by its mode (R141). -/
theorem outLevel_eq (t : Trig) :
    t.outLevel
      = if t.omode = 1 then decide (t.pulse ≠ 0) ^^ t.oval
        else if t.omode = 2 then t.flow ^^ t.oval else t.oval := by
  have pulsing : (t.pulse != 0) = decide (t.pulse ≠ 0) := by rw [Bool.eq_iff_iff]; simp
  unfold Trig.outLevel
  rw [pulsing]

/-- The end of a tick at a trigger line (R6, R141, R142). -/
theorem endTick_eq (g : Trig) :
    let pulse := if g.pulseFresh then g.pulse else g.pulse - 1
    g.endTick.pulse = pulse ∧ g.endTick.pulseFresh = false ∧ g.endTick.flag = g.flag ∧ g.endTick.flagNow = false
      ∧ g.endTick.driven
        = if g.out = false then none
          else some
            (if g.omode = 1 then decide (pulse ≠ 0) ^^ g.oval
             else if g.omode = 2 then g.flow ^^ g.oval else g.oval) := by
  refine ⟨rfl, rfl, rfl, rfl, ?_⟩
  change (if g.out then some (Trig.outLevel _) else none) = _
  rw [outLevel_eq]
  cases g.out <;> rfl

/-- The clock watchdog's count of one lane (R27, R178). -/
theorem countTick_eq (l : Lane) (busy : Bool) :
    (if busy then l else l.countTick)
      = { l with
          wdog :=
            if l.st ≠ .off ∧ l.st ≠ .noclock ∧ l.inject = false ∧ busy = false then l.wdog + 1 else l.wdog } := by
  cases busy
  · simp only [Lane.countTick, Lane.receiving, Bool.and_eq_true, bne_iff_ne, Bool.not_eq_true', and_assoc, and_true,
      Bool.false_eq_true, if_false]
    split <;> rfl
  · simp

/-- Settles O2: the tick's course by `passTo_eq` and `advance_evaluate`, a command's turn by `arrive_late` and
`arrive_ref`, and the service order by the numbers of its slots. -/
theorem emptyQueueEndsTheTick : Obligations.EmptyQueueEndsTheTick := by
  unfold Obligations.EmptyQueueEndsTheTick
  intro passed
  have passed_eq (k : Nat) (s : State) : passed k s = passTo k s := (passTo_eq k s).symm
  refine ⟨fun s hs => ?_, fun c s => ?_, fun n s => ?_, fun o data up k s => ?_⟩
  · have hstep : step s = .next (tick s) := by simp only [step, hs]
    obtain ⟨hasked, hreq, hintl, hmod, htrig, hlane, hroute, hold, hstore⟩ := advance_evaluate (passTo 10000 s)
    refine ⟨tick s, hstep, (tick_pending s).trans hs, tick_ref s, tick_wdog s, rfl, hasked, rfl, ?_⟩
    · rw [passed_eq]
      refine ⟨hreq, hintl, fun n => ?_, fun n => ?_, hroute, hold, hmod, hstore⟩
      · exact (htrig n : (tick s).trig n = _) ▸ endTick_eq _
      · exact (hlane n).trans (countTick_eq _ _)
  · refine ⟨arrive_late, fun h => ?_, fun k hq => ?_, arrive_ref c s⟩
    · simp [arrive, tickFor, h, passed_eq]
    · rw [passed_eq, passTo_quiet hq]
  · exact ⟨acts_inTurn (fun _ => rfl) s, acts_inTurn (fun _ => rfl) s, acts_inTurn (fun _ => rfl) s,
      acts_inTurn (fun _ => rfl) s, fun hh hf hp hc => flipRow_alone hh hf hp hc ▸ acts_inTurn (fun _ => rfl) s⟩
  · obtain ⟨payload_first, payload_last⟩ := payloadSlot_between s
    refine ⟨?ascend, fun h => ?boot, fun h => ?command, ?behindOpen, ?aheadFetch, fun hheld hen => ?held, fun h => ?free⟩
    case ascend => exact (slots_serviceOrder o data up s).symm ▸ serviceSlots_ascend
    case boot => simp [slot, slotKey, h]
    case command => simp [slot, slotKey, h]
    case held => simp [slot, slotKey, engineStart, hheld, hen]
    case free =>
      have still : (s.irq.held && s.host.masterEn) = false := Bool.and_eq_false_iff.mpr h
      simp [slot, slotKey, still]
    case behindOpen => exact payload_first
    case aheadFetch => exact payload_last

end Sys2Proof.Machine
end

section
/-! SUPPORT. The register map and the shape of a host access (R3 to R8, R10): where each register stands, what a refused access
does and what is ignored while the part is busy; the statements O12, O13, O14 and O22. -/

namespace Sys2Proof.Machine

/-- Each word of the regions below the lanes stands at four times its number. -/
theorem regOffset_lowReg {k : Nat} {r : Reg} (h : lowReg k = some r) : regOffset r = 4 * k := by
  unfold lowReg at h
  split at h <;> cases h <;> rfl

/-- A lane has a block of 64 bytes. -/
theorem regOffset_laneReg {n : Fin 4} {o : Nat} {r : Reg} (h : laneReg n o = some r) :
    regOffset r = 0x100 + 64 * n.val + 4 * (o / 4) := by
  unfold laneReg at h
  split at h
  case h_9 =>
    split at h
    · cases h; simp only [regOffset]; omega
    · cases h
  all_goals (cases h; simp only [regOffset, laneRegOffset]; omega)

/-- A trigger line has a block of 16 bytes. -/
theorem regOffset_trigReg {n : Fin 4} {o : Nat} {r : Reg} (h : trigReg n o = some r) :
    regOffset r = 0x200 + 16 * n.val + 4 * (o / 4) := by
  unfold trigReg at h
  split at h <;> cases h <;> simp only [regOffset, trigRegOffset] <;> omega

/-- A window has a block of 16 bytes. -/
theorem regOffset_windowReg {w : Fin 4} {o : Nat} {r : Reg} (h : windowReg w o = some r) :
    regOffset r = 0x240 + 16 * w.val + 4 * (o / 4) := by
  unfold windowReg at h
  split at h <;> cases h <;> simp only [regOffset] <;> omega

/-- Each word between the windows and the routes stands at four times its number. -/
theorem regOffset_midReg {k : Nat} {r : Reg} (h : midReg k = some r) : regOffset r = 0x280 + 4 * k := by
  unfold midReg at h
  split at h <;> cases h <;> rfl

/-- A route has a block of 64 bytes. -/
theorem regOffset_routeReg {n : Fin 16} {o : Nat} {r : Reg} (h : routeReg n o = some r) :
    regOffset r = 0x400 + 64 * n.val + 4 * (o / 4) := by
  unfold routeReg at h
  split at h <;> cases h <;> simp only [regOffset] <;> omega

/-- An offset that names a register is that register's own: region by region, as `regAt` reads the map. -/
theorem regOffset_of_regAt {o : Nat} {r : Reg} (h : regAt o = some r) : regOffset r = o := by
  unfold regAt at h
  obtain ⟨-, h⟩ | ⟨aligned, h⟩ := ite_eq_iff.mp h
  · cases h
  obtain ⟨-, h⟩ | ⟨low, h⟩ := ite_eq_iff.mp h
  · have := regOffset_lowReg h; omega
  obtain ⟨lane, h⟩ | ⟨lane, h⟩ := ite_eq_iff.mp h
  · have := regOffset_laneReg h; rw [Fin.val_ofNat] at this; omega
  obtain ⟨trig, h⟩ | ⟨trig, h⟩ := ite_eq_iff.mp h
  · have := regOffset_trigReg h; rw [Fin.val_ofNat] at this; omega
  obtain ⟨window, h⟩ | ⟨window, h⟩ := ite_eq_iff.mp h
  · have := regOffset_windowReg h; rw [Fin.val_ofNat] at this; omega
  obtain ⟨-, h⟩ | ⟨mid, h⟩ := ite_eq_iff.mp h
  · have := regOffset_midReg h; omega
  obtain ⟨-, h⟩ | ⟨gap, h⟩ := ite_eq_iff.mp h
  · cases h
  obtain ⟨route, h⟩ | ⟨route, h⟩ := ite_eq_iff.mp h
  · have := regOffset_routeReg h; rw [Fin.val_ofNat] at this; omega
  obtain ⟨entry, h⟩ | ⟨entry, h⟩ := ite_eq_iff.mp h
  · rw [Option.some_inj] at h
    subst h
    split <;> simp only [regOffset, Fin.val_ofNat] <;> omega
  split at h
  next => cases h; simp only [regOffset, Fin.val_ofNat]; omega
  split at h
  next => cases h
  split at h
  next => cases h; simp only [regOffset, Fin.val_ofNat]; omega
  split at h
  next heq => cases h; exact heq.symm
  split at h
  next heq => cases h; exact heq.symm
  split at h
  next => cases h
  split at h
  next => cases h; simp only [regOffset, Fin.val_ofNat]; omega
  next => cases h

/-- The map names every register, a family of registers by its numbers. -/
theorem regAt_regOffset (r : Reg) : regAt (regOffset r) = some r := by
  cases r with
  | snap k => revert k; decide
  | lane n r => cases r <;> revert n <;> decide
  | trig n r => cases r <;> revert n <;> decide
  | window n r => cases r <;> revert n <;> decide
  | route n r => cases r <;> revert n <;> decide
  | laneCtr n k => revert n k; decide
  | crbase h => cases h <;> decide
  | evw k | matchA k | matchB k | hits k | ident k | lstat k | lrate k | linjc k | linj k | tgtimeLo k | tgtimeHi k
  | rpost k | rdone k | rfetch k | rstat0 k | rstat1 k | rcsel k | rcval k | rserial k | rbcnt k => revert k; decide
  | _ => decide

/-- A register stands at an aligned offset below the end of the window. -/
theorem regAt_bounds {o : Nat} {r : Reg} (h : regAt o = some r) : o % 4 = 0 ∧ o < 4096 := by
  constructor
  · by_contra aligned
    simp [regAt, aligned] at h
  · have := regOffset_of_regAt h
    cases r with
    | lane n w | trig n w | window n w | route n w =>
      cases w <;> simp only [regOffset, laneRegOffset, trigRegOffset] at this <;> omega
    | crbase w => cases w <;> simp only [regOffset] at this <;> omega
    | _ => simp only [regOffset] at this; omega

/-- Settles O14: each region of the map is its own list of words, in both directions. -/
theorem registerMapRoundTrip : Obligations.RegisterMapRoundTrip :=
  ⟨fun r => ⟨regAt_regOffset r, regAt_bounds (regAt_regOffset r)⟩, fun _ _ => regOffset_of_regAt⟩

/-- A read at a register's offset reads that register. -/
theorem readWord_offset {o : Nat} {r : Reg} (h : regOffset r = o) (s : State) : readWord s o = readReg s r := by
  rw [← h, readWord, regAt_regOffset]

/-- Settles O13: by `readWord_offset` at the seven offsets. -/
theorem devidIsConstant : Obligations.DevidIsConstant :=
  fun s => ⟨readWord_offset (r := .devid) rfl s, fun k => readWord_offset (r := .ident k) rfl s⟩

/-! ### Refused accesses (R4) -/

/-- The host link refuses nothing while no boot load and no device reset is in progress. -/
theorem writable_idle {s : State} (h : s.ctl.loading = false ∧ s.ctl.resetBusy = false) : writable s = true := by
  simp [writable, h]

theorem writable_busy {s : State} (h : s.ctl.loading = true ∨ s.ctl.resetBusy = true) : writable s = false := by
  rcases h with h | h <;> simp [writable, h]

/-- An access that is misaligned, partial or of several words is refused (R4). -/
theorem access_refused {offset : BitVec 12} {bytes : BitVec 4} {multi : Bool}
    (h : offset.toNat % 4 ≠ 0 ∨ bytes ≠ 0xF#4 ∨ multi = true) (write : Bool) (data : Word) (s : State) :
    access offset write bytes multi data s = refuseAccess offset write bytes data s := by
  unfold access
  rw [if_pos]
  simpa [or_assoc] using h

/-- An aligned access of one whole word is carried out. -/
theorem access_whole {offset : BitVec 12} (h : offset.toNat % 4 = 0) (write : Bool) (data : Word) (s : State) :
    access offset write 0xF#4 false data s
      = if write then hostWrite offset.toNat data s else hostRead offset.toNat s := by
  simp [access, h]

/-- A refused access is reported while the host link is writable. -/
theorem refuseAccess_idle {s : State} (h : s.ctl.loading = false ∧ s.ctl.resetBusy = false) (offset : BitVec 12)
    (write : Bool) (bytes : BitVec 4) (data : Word) :
    refuseAccess offset write bytes data s =
      { s with
        hostData := if write then s.hostData else 0xFFFFFFFF#32
        host := { s.host with accerr := accessWord offset write bytes }
        ev := (post 0x90 0xFF (accessWord offset write bytes) (if write then data else 0) s).ev } := by
  have idle := writable_idle h
  unfold refuseAccess
  cases write
  · exact if_pos idle
  · exact if_pos idle

/-- While the part is busy a refused read returns ones, and nothing else changes. -/
theorem refuseAccess_busy {s : State} (h : s.ctl.loading = true ∨ s.ctl.resetBusy = true) (offset : BitVec 12)
    (write : Bool) (bytes : BitVec 4) (data : Word) :
    refuseAccess offset write bytes data s = { s with hostData := if write then s.hostData else 0xFFFFFFFF#32 } := by
  have busy : ¬writable s = true := by simp [writable_busy h]
  unfold refuseAccess
  cases write
  · exact if_neg busy
  · exact if_neg busy

/-- Settles O22: a refused access is `refuseAccess`, while the host link is writable and while it is busy. -/
theorem refusedAccessIsReported : Obligations.RefusedAccessIsReported := by
  refine ⟨fun offset write bytes multi data s hbad => ?_, fun offset data s hbad => ?_⟩
  · have act : Acts (.accessError offset write bytes multi data) s (access offset write bytes multi data s) :=
      acts_inTurn (fun _ => rfl) s
    rw [access_refused hbad] at act
    constructor <;> intro h
    · rwa [refuseAccess_idle h] at act
    · rwa [refuseAccess_busy h] at act
  · have act : Acts (.registerWrite offset data) s (access offset true (firstEnables offset) false data s) :=
      acts_inTurn (fun _ => rfl) s
    rw [access_refused (.inl hbad)] at act
    constructor <;> intro h
    · rwa [refuseAccess_idle h] at act
    · rwa [refuseAccess_busy h] at act

/-! ### Writes while the part is busy (R8) -/

/-- While a boot load or a device reset is in progress a write access changes nothing (R4, R8). -/
theorem access_write_busy {s : State} (h : s.ctl.loading = true ∨ s.ctl.resetBusy = true) (offset : BitVec 12)
    (bytes : BitVec 4) (multi : Bool) (data : Word) : access offset true bytes multi data s = s := by
  by_cases bad : offset.toNat % 4 ≠ 0 ∨ bytes ≠ 0xF#4 ∨ multi = true
  · rw [access_refused bad, refuseAccess_busy h]
    rfl
  · simp only [not_or, not_not, Bool.not_eq_true] at bad
    obtain ⟨aligned, rfl, rfl⟩ := bad
    rw [access_whole aligned]
    simp only [if_true, hostWrite]
    split
    · exact hostWriteReg_busy h _ data
    · rfl

/-- Settles O12: an access by `access_write_busy`, the other rows by `hostWriteReg_busy`. -/
theorem hostWritesIgnoredWhileBusy : Obligations.HostWritesIgnoredWhileBusy := by
  intro i s hwrite hbusy
  have reg (r : Reg) (data : Word) (hc : ∀ s₀, exec i s₀ = inTurn i (hostWriteReg r data) s₀) : Acts i s s := by
    have act := acts_inTurn hc s
    rwa [hostWriteReg_busy hbusy] at act
  cases i with
  | accessError offset write bytes multi data =>
    obtain rfl : write = true := hwrite
    have act : Acts (.accessError offset true bytes multi data) s (access offset true bytes multi data s) :=
      acts_inTurn (fun _ => rfl) s
    rwa [access_write_busy hbusy] at act
  | registerWrite offset data =>
    have act : Acts (.registerWrite offset data) s (access offset true (firstEnables offset) false data s) :=
      acts_inTurn (fun _ => rfl) s
    rwa [access_write_busy hbusy] at act
  | deviceReset | laneConfigWrite | laneEnable | laneDisable | linjWrite | tgcfgWrite | rpostWrite
  | routeConfigWrite | windowWrite | crbaseWrite | completionRingEnable | completionRingDisable | crconsWrite
  | bshedWrite | bstatWrite | evpop | complClear | cmpmodWrite | commandIssue => exact reg _ _ fun _ => rfl
  | _ => cases hwrite

end Sys2Proof.Machine
end

section
/-! SUPPORT. What lanes, routes and trigger lines leave alone: the host port, the engine's own state, the interrupt unit, the
command port, the store controller, reset control and what has gone out on the host link. One lemma per operation, in the
order of the model. -/

namespace Sys2Proof.Machine

/-- The host port, the engine's own state, the interrupt unit, the command port, the store controller, reset control
and what has gone out on the host link are the same in t as in s. -/
@[simp] abbrev KeepsUnits (t s : State) : Prop :=
  t.host = s.host ∧ t.eng = s.eng ∧ t.irq = s.irq ∧ t.cmd = s.cmd ∧ t.store = s.store ∧ t.ctl = s.ctl
    ∧ t.bus = s.bus ∧ t.hostData = s.hostData

theorem KeepsUnits.refl (s : State) : KeepsUnits s s := ⟨rfl, rfl, rfl, rfl, rfl, rfl, rfl, rfl⟩

theorem KeepsUnits.trans {u t s : State} (h : KeepsUnits u t) (k : KeepsUnits t s) : KeepsUnits u s := by
  obtain ⟨h1, h2, h3, h4, h5, h6, h7, h8⟩ := h
  obtain ⟨k1, k2, k3, k4, k5, k6, k7, k8⟩ := k
  exact ⟨h1.trans k1, h2.trans k2, h3.trans k3, h4.trans k4, h5.trans k5, h6.trans k6, h7.trans k7, h8.trans k8⟩

/-- A row of operations that each keep the units keeps them. -/
theorem foldl_keepsUnits {α : Type} {f : State → α → State} (h : ∀ s a, KeepsUnits (f s a) s) (l : List α)
    (s : State) : KeepsUnits (l.foldl f s) s := by
  induction l generalizing s with
  | nil => exact .refl s
  | cons a l ih => exact (ih (f s a)).trans (h s a)

/-! ### Release and queues -/

@[simp] theorem shedTest_keepsUnits (b : Bool) (s : State) : KeepsUnits (shedTest b s) s := by
  unfold shedTest; split
  · cases b <;> simp
  · simp

@[simp] theorem releaseChain_keepsUnits (r : Fin 16) (c : List Nat) (s : State) :
    KeepsUnits (releaseChain r c s) s := by
  simp [releaseChain]

@[simp] theorem loseMarks_keepsUnits (n : Fin 4) (m : Bool) (s : State) : KeepsUnits (loseMarks n m s) s := by
  cases m <;> simp [loseMarks]

@[simp] theorem dropHead_keepsUnits (r : Fin 16) (lost : Bool) (s : State) : KeepsUnits (dropHead r lost s) s := by
  unfold dropHead; split <;> simp

/-! ### Route moves -/

@[simp] theorem enterRunning_keepsUnits (r : Fin 16) (s : State) : KeepsUnits (enterRunning r s) s := by
  simp [enterRunning]

@[simp] theorem startRoute_keepsUnits (r : Fin 16) (line : Option (Fin 4)) (s : State) :
    KeepsUnits (startRoute r line s) s := by
  simp [startRoute]

@[simp] theorem enterStopping_keepsUnits (r : Fin 16) (s : State) : KeepsUnits (enterStopping r s) s := by
  simp [enterStopping]

@[simp] theorem triggerRoute_keepsUnits (n : Fin 4) (t : Trig) (s : State) (r : Fin 16) :
    KeepsUnits (triggerRoute n t s r) s := by
  unfold triggerRoute
  split
  · split <;> simp
  · split <;> simp
  · simp

/-! ### Classification and admission -/

@[simp] theorem storeBody_keepsUnits (n : Fin 4) (k : Nat) (bytes : List Byte) (s : State) :
    KeepsUnits (storeBody n k bytes s) s := by
  unfold storeBody
  split
  · split <;> simp
  · simp

@[simp] theorem dropFrame_keepsUnits (n : Fin 4) (s : State) : KeepsUnits (dropFrame n s) s := by
  unfold dropFrame; split <;> simp

@[simp] theorem refuse_keepsUnits (n : Fin 4) (r : Fin 16) (c : RouteCtr) (s : State) :
    KeepsUnits (refuse n r c s) s := by
  simp [refuse]

@[simp] theorem evictOldest_keepsUnits (r : Fin 16) (s : State) : KeepsUnits (evictOldest r s) s := by
  unfold evictOldest; split <;> simp

@[simp] theorem evictWhile_keepsUnits (more : State → Bool) (r : Fin 16) (k : Nat) (s : State) :
    KeepsUnits (evictWhile more r k s) s := by
  induction k generalizing s with
  | zero => exact .refl s
  | succ k ih =>
    unfold evictWhile
    split
    · exact (ih _).trans (evictOldest_keepsUnits r s)
    · exact .refl s

@[simp] theorem quotaEvict_keepsUnits (r : Fin 16) (B : Nat) (s : State) : KeepsUnits (quotaEvict r B s) s := by
  unfold quotaEvict; split <;> simp

@[simp] theorem retainEvict_keepsUnits (r : Fin 16) (s : State) : KeepsUnits (retainEvict r s) s := by
  unfold retainEvict; split <;> simp

@[simp] theorem refuseQuota_keepsUnits (n : Fin 4) (r : Fin 16) (B : Nat) (s : State) :
    KeepsUnits (refuseQuota n r B s) s := by
  unfold refuseQuota; split <;> simp

@[simp] theorem refuseThreshold_keepsUnits (n : Fin 4) (r : Fin 16) (B : Nat) (s : State) :
    KeepsUnits (refuseThreshold n r B s) s := by
  unfold refuseThreshold
  split
  · split <;> simp
  · split <;> simp

@[simp] theorem countBudget_keepsUnits (n : Fin 4) (r : Fin 16) (s : State) : KeepsUnits (countBudget n r s) s := by
  unfold countBudget
  dsimp only
  split
  · split <;> simp
  · simp

@[simp] theorem takeBlocks_keepsUnits (B : Nat) (s : State) : KeepsUnits (takeBlocks B s) s := .refl s

@[simp] theorem reserve_keepsUnits (n : Fin 4) (t : Ticket) (B : Nat) (s : State) :
    KeepsUnits (reserve n t B s) s := by
  unfold reserve
  cases (s.route t.route).high <;> simp

@[simp] theorem admitFrame_keepsUnits (n : Fin 4) (L : Nat) (t : Ticket) (s : State) :
    KeepsUnits (admitFrame n L t s) s := by
  unfold admitFrame
  dsimp only
  generalize blockNeed _ = B
  cases gateRefusal s t.route with
  | some c => simp
  | none =>
    dsimp only
    split
    · simp
    · split <;> simp

@[simp] theorem setEntry_keepsUnits (s : State) (i : Fin 32) (e : MatchEntry) :
    KeepsUnits (s.setEntry i e) s := .refl s

@[simp] theorem classify_keepsUnits (n : Fin 4) (L : Nat) (head : List Byte) (s : State) :
    KeepsUnits (classify n L head s) s := by
  unfold classify
  dsimp only
  split
  · split <;> simp
  · split <;> simp

@[simp] theorem seqCheck_keepsUnits (n : Fin 4) (t : Ticket) (v : FcsVerdict) (s : State) :
    KeepsUnits (seqCheck n t v s).1 s := by
  unfold seqCheck
  dsimp only
  split
  · simp
  · split <;> simp

@[simp] theorem discardFrame_keepsUnits (n : Fin 4) (f : FrameCtx) (t : Ticket) (c : RouteCtr) (s : State) :
    KeepsUnits (discardFrame n f t c s) s := by
  simp [discardFrame, closeFrame]

@[simp] theorem commitFrame_keepsUnits (n : Fin 4) (f : FrameCtx) (t : Ticket) (L : Nat) (v : FcsVerdict)
    (q : SeqVerdict) (s : State) : KeepsUnits (commitFrame n f t L v q s) s := by
  simp [commitFrame, closeFrame]

@[simp] theorem finalize_keepsUnits (n : Fin 4) (f : FrameCtx) (t : Ticket) (L : Nat) (v : FcsVerdict) (s : State) :
    KeepsUnits (finalize n f t L v s) s := by
  unfold finalize
  dsimp only
  split
  · simp
  · split <;> simp

/-! ### The synchronizer -/

@[simp] theorem frameStart_keepsUnits (n : Fin 4) (coast : Bool) (s : State) : KeepsUnits (frameStart n coast s) s := by
  simp [frameStart]

@[simp] theorem acquireLock_keepsUnits (n : Fin 4) (s : State) : KeepsUnits (acquireLock n s) s := by
  simp [acquireLock]

@[simp] theorem loseLock_keepsUnits (n : Fin 4) (s : State) : KeepsUnits (loseLock n s) s := by
  simp [loseLock]

@[simp] theorem syncFoundAt_keepsUnits (n : Fin 4) (s : State) : KeepsUnits (syncFoundAt n s) s := by
  unfold syncFoundAt
  dsimp only
  split
  · split
    · split <;> simp
    · simp
  · simp

@[simp] theorem syncPositionAt_keepsUnits (n : Fin 4) (s : State) : KeepsUnits (syncPositionAt n s) s := by
  unfold syncPositionAt
  dsimp only
  split
  · split
    · split
      · split <;> simp
      · simp
    · split
      · simp
      · split <;> simp
    · split
      · simp
      · split <;> simp
    · simp
  · simp

@[simp] theorem lengthError_keepsUnits (n : Fin 4) (L : Int) (s : State) : KeepsUnits (lengthError n L s) s := by
  unfold lengthError
  dsimp only
  split <;> simp

@[simp] theorem headerKnown_keepsUnits (n : Fin 4) (L : Nat) (head : List Byte) (s : State) :
    KeepsUnits (headerKnown n L head s) s := by
  unfold headerKnown
  dsimp only
  split <;> simp

@[simp] theorem headerExtentAt_keepsUnits (n : Fin 4) (s : State) : KeepsUnits (headerExtentAt n s) s := by
  unfold headerExtentAt
  dsimp only
  split
  · split
    · split
      · split <;> simp
      · simp
    · simp
  · simp

@[simp] theorem frameEndAt_keepsUnits (n : Fin 4) (s : State) : KeepsUnits (frameEndAt n s) s := by
  unfold frameEndAt
  dsimp only
  split
  · split
    · rename_i f _ _
      cases f.fate <;> simp
    · simp
  · simp

@[simp] theorem flipAt_keepsUnits (n : Fin 4) (s : State) : KeepsUnits (flipAt n s) s := by
  unfold flipAt; split <;> simp

@[simp] theorem settleSync_keepsUnits (n : Fin 4) (s : State) : KeepsUnits (settleSync n s) s := by
  simp [settleSync]

@[simp] theorem settleLane_keepsUnits (n : Fin 4) (s : State) : KeepsUnits (settleLane n s) s := by
  simp [settleLane]

@[simp] theorem flipRow_keepsUnits (n : Fin 4) (s : State) : KeepsUnits (flipRow n s) s := by
  unfold flipRow; split <;> simp

@[simp] theorem bodyByte_keepsUnits (n : Fin 4) (b : Byte) (s : State) : KeepsUnits (bodyByte n b s) s := by
  unfold bodyByte
  dsimp only
  split <;> simp

@[simp] theorem phaseBit_keepsUnits (n : Fin 4) (b : Bool) (s : State) : KeepsUnits (phaseBit n b s) s := by
  unfold phaseBit
  dsimp only
  split
  · simp
  · split
    · simp
    · split <;> simp

@[simp] theorem handBit_keepsUnits (n : Fin 4) (b : Bool) (s : State) : KeepsUnits (handBit n b s) s := by
  unfold handBit
  dsimp only
  split <;> simp

@[simp] theorem abandon_keepsUnits (n : Fin 4) (s : State) : KeepsUnits (abandon n s) s := by
  obtain ⟨sh, ev, trigs, h, -⟩ := abandon_frame n s
  simp [h]

/-! ### The lane receivers -/

@[simp] theorem disableLane_keepsUnits (n : Fin 4) (s : State) : KeepsUnits (disableLane n s) s := by
  simp [disableLane]

@[simp] theorem enableLane_keepsUnits (n : Fin 4) (report : Bool) (s : State) :
    KeepsUnits (enableLane n report s).1 s := by
  unfold enableLane
  dsimp only
  split
  · simp
  · cases report <;> simp

@[simp] theorem refuseWrite_keepsUnits (report : Bool) (source : Byte) (offset : Nat) (data : Word) (s : State) :
    KeepsUnits (refuseWrite report source offset data s) s := by
  cases report <;> simp [refuseWrite]

@[simp] theorem writeLaneReg_keepsUnits (n : Fin 4) (reg : LaneReg) (data : Word) (report : Bool) (s : State) :
    KeepsUnits (writeLaneReg n reg data report s).1 s := by
  unfold writeLaneReg
  dsimp only
  split
  · split
    · split <;> simp
    · split <;> split <;> simp
  · split <;> simp

@[simp] theorem writeLinjc_keepsUnits (n : Fin 4) (data : Word) (s : State) : KeepsUnits (writeLinjc n data s) s := by
  unfold writeLinjc
  dsimp only
  split <;> simp

@[simp] theorem writeLinj_keepsUnits (n : Fin 4) (data : Word) (s : State) : KeepsUnits (writeLinj n data s) s := by
  unfold writeLinj
  dsimp only
  split
  · split <;> simp
  · simp

@[simp] theorem clockLostAt_keepsUnits (n : Fin 4) (s : State) : KeepsUnits (clockLostAt n s) s := by
  unfold clockLostAt; split <;> simp

@[simp] theorem clockRestoredAt_keepsUnits (n : Fin 4) (s : State) : KeepsUnits (clockRestoredAt n s) s := by
  unfold clockRestoredAt; split <;> simp

@[simp] theorem clockEdge_keepsUnits (n : Fin 4) (rising level : Bool) (s : State) :
    KeepsUnits (clockEdge n rising level s) s := by
  unfold clockEdge
  dsimp only
  split
  · split <;> simp
  · simp

@[simp] theorem feedAt_keepsUnits (n : Fin 4) (s : State) : KeepsUnits (feedAt n s) s := by
  unfold feedAt
  dsimp only
  split
  · split <;> simp
  · simp

/-! ### The timebase and the trigger port -/

@[simp] theorem syncMissingAt_keepsUnits (s : State) : KeepsUnits (syncMissingAt s) s := by
  unfold syncMissingAt; split <;> simp

@[simp] theorem applyMarks_keepsUnits (n : Fin 4) (s : State) : KeepsUnits (applyMarks n s) s :=
  foldl_keepsUnits (fun s k => by split <;> simp) _ s

@[simp] theorem applyRoutes_keepsUnits (n : Fin 4) (s : State) : KeepsUnits (applyRoutes n s) s :=
  foldl_keepsUnits (fun s r => triggerRoute_keepsUnits n (s.trig n) s r) _ s

@[simp] theorem actTrigger_keepsUnits (n : Fin 4) (rising : Bool) (s : State) :
    KeepsUnits (actTrigger n rising s) s := by
  unfold actTrigger
  dsimp only
  split <;> simp

@[simp] theorem sampleTrigger_keepsUnits (n : Fin 4) (level : Bool) (s : State) :
    KeepsUnits (sampleTrigger n level s) s := by
  unfold sampleTrigger acceptTrigger
  dsimp only
  split
  · split
    · simp
    · split
      · split <;> simp
      · simp
  · simp

@[simp] theorem writeTrig_keepsUnits (n : Fin 4) (reg : TrigReg) (data : Word) (s : State) :
    KeepsUnits (writeTrig n reg data s) s := by
  cases reg with
  | tgcfg =>
    simp only [writeTrig]
    split <;> simp [clearLineMarks]
  | tgarg => simp [writeTrig]

@[simp] theorem pulseEndAt_keepsUnits (n : Fin 4) (s : State) : KeepsUnits (pulseEndAt n s) s := by
  unfold pulseEndAt
  dsimp only
  split <;> simp

/-! ### Host accesses -/

@[simp] theorem writeRouteReg_keepsUnits (r : Fin 16) (reg : RouteReg) (data : Word) (report : Bool) (s : State) :
    KeepsUnits (writeRouteReg r reg data report s).1 s := by
  unfold writeRouteReg
  dsimp only
  split <;> simp

@[simp] theorem writeRpost_keepsUnits (r : Fin 16) (data : Word) (s : State) :
    KeepsUnits (writeRpost r data s) s := by
  unfold writeRpost
  dsimp only
  split <;> simp

/-! ### The delivery engine -/

@[simp] theorem haltRoute_keepsUnits (r : Fin 16) (f : DescFault) (idx : Nat) (s : State) :
    KeepsUnits (haltRoute r f idx s) s := by
  simp [haltRoute]

@[simp] theorem openBuffer_keepsUnits (r : Fin 16) (s : State) : KeepsUnits (openBuffer r s) s := by
  unfold openBuffer
  split
  · split
    · simp
    · split <;> simp
  · simp

@[simp] theorem closeBuffer_keepsUnits (r : Fin 16) (reason : Reason) (s : State) :
    KeepsUnits (closeBuffer r reason s) s := by
  simp [closeBuffer]

@[simp] theorem tryClose_keepsUnits (due : Bool) (reason : Reason) (r : Fin 16) (s : State) :
    KeepsUnits (tryClose due reason r s) s := by
  unfold tryClose
  split
  · simp
  · split <;> simp

@[simp] theorem closeRoute_keepsUnits (r : Fin 16) (how : Word) (s : State) : KeepsUnits (closeRoute r how s) s := by
  simp [closeRoute]

/-! ### Commands -/

@[simp] theorem armRoute_keepsUnits (r : Fin 16) (s : State) : KeepsUnits (armRoute r s).1 s := by
  unfold armRoute
  split
  · split <;> simp
  all_goals simp

@[simp] theorem startCmd_keepsUnits (r : Fin 16) (s : State) : KeepsUnits (startCmd r s).1 s := by
  unfold startCmd
  split
  · simp
  · split
    · split <;> simp
    all_goals simp

@[simp] theorem stopCmd_keepsUnits (r : Fin 16) (s : State) : KeepsUnits (stopCmd r s).1 s := by
  unfold stopCmd
  split
  · simp
  · split <;> simp
  all_goals simp

@[simp] theorem withdrawFrame_keepsUnits (r : Fin 16) (s : State) (n : Fin 4) :
    KeepsUnits (withdrawFrame r s n) s := by
  unfold withdrawFrame
  split
  · split
    · split <;> simp
    · simp
  · simp

@[simp] theorem discardAt_keepsUnits (r : Fin 16) (keep : Nat) (s : State) : KeepsUnits (discardAt r keep s) s := by
  unfold discardAt
  dsimp only
  split <;> simp

@[simp] theorem discardQueue_keepsUnits (r : Fin 16) (keep k : Nat) (s : State) :
    KeepsUnits (discardQueue r keep k s) s := by
  induction k generalizing s with
  | zero => exact .refl s
  | succ k ih => exact (ih _).trans (discardAt_keepsUnits r keep s)

@[simp] theorem enterAborting_keepsUnits (r : Fin 16) (s : State) : KeepsUnits (enterAborting r s) s := by
  have withdrawn := foldl_keepsUnits (withdrawFrame_keepsUnits r) allLanes
    (s.modRoute r (fun t => { t with st := .aborting }))
  simpa [enterAborting] using withdrawn

@[simp] theorem abortCmd_keepsUnits (r : Fin 16) (s : State) : KeepsUnits (abortCmd r s).1 s := by
  unfold abortCmd
  split
  case h_5 =>
    split
    · simp
    · split <;> simp
  all_goals simp

@[simp] theorem resumeCmd_keepsUnits (r : Fin 16) (s : State) : KeepsUnits (resumeCmd r s).1 s := by
  unfold resumeCmd
  split
  · dsimp only
    split <;> simp
  · simp

@[simp] theorem flushCmd_keepsUnits (r : Fin 16) (s : State) : KeepsUnits (flushCmd r s).1 s := by
  unfold flushCmd
  split
  · split <;> simp
  · simp

end Sys2Proof.Machine
end

section
/-! SUPPORT. Bus-master transactions (R13, R14, R17, R155): what issues none, what issues some and when, and the statement
O11. -/

namespace Sys2Proof.Machine

/-! ### What issues no transaction -/

@[simp] theorem armedLoad_bus (s : State) : (armedLoad s).bus = s.bus := by
  unfold armedLoad; split <;> simp [loadEpoch]

@[simp] theorem actSync_bus (s : State) : (actSync s).bus = s.bus := by
  unfold actSync
  dsimp only
  split <;> split <;> simp

@[simp] theorem sampleSync_bus (level : Bool) (s : State) : (sampleSync level s).bus = s.bus := by
  unfold sampleSync acceptSync
  dsimp only
  split
  · rfl
  · split
    · rfl
    · split
      · split <;> simp
      · rfl

@[simp] theorem sampleInput_bus (i : Input) (level : Bool) (s : State) : (sampleInput i level s).bus = s.bus := by
  cases i <;> simp [sampleInput]

@[simp] theorem periodicTickAt_bus (s : State) : (periodicTickAt s).bus = s.bus := by
  unfold periodicTickAt; split <;> simp

@[simp] theorem expireAt_bus (s : State) : (expireAt s).bus = s.bus := by
  unfold expireAt; split <;> rfl

@[simp] theorem resetDoneAt_bus (s : State) : (resetDoneAt s).bus = s.bus := by
  unfold resetDoneAt; split <;> simp

/-! ### Host accesses -/

@[simp] theorem writeDevctl_bus (data : Word) (allowReset : Bool) (s : State) :
    (writeDevctl data allowReset s).bus = s.bus := by
  unfold writeDevctl
  dsimp only
  split <;> rfl

@[simp] theorem writeWindow_bus (w : Fin 4) (reg : WindowReg) (data : Word) (report : Bool) (s : State) :
    (writeWindow w reg data report s).1.bus = s.bus := by
  unfold writeWindow; split <;> simp

@[simp] theorem writeCrbase_bus (h : BaseHalf) (data : Word) (report : Bool) (s : State) :
    (writeCrbase h data report s).1.bus = s.bus := by
  unfold writeCrbase; split <;> simp

@[simp] theorem writeCrcfg_bus (data : Word) (report : Bool) (s : State) :
    (writeCrcfg data report s).1.bus = s.bus := by
  unfold writeCrcfg
  dsimp only
  split
  · split
    · split <;> rfl
    · rfl
  · simp

@[simp] theorem writeCrcons_bus (data : Word) (s : State) : (writeCrcons data s).bus = s.bus := by
  unfold writeCrcons
  dsimp only
  split
  · split <;> simp
  · rfl

@[simp] theorem writeIntstat_bus (data : Word) (s : State) : (writeIntstat data s).bus = s.bus := by
  unfold writeIntstat
  dsimp only
  split <;> rfl

@[simp] theorem offerCmd_bus (c : Cmd) (s : State) : (offerCmd c s).bus = s.bus := by
  unfold offerCmd; split <;> simp

/-- No write of a register issues a transaction, by the host or by a preset. -/
@[simp] theorem writeReg_bus (report : Bool) (data : Word) (s : State) (r : Reg) :
    (writeReg report data s r).1.bus = s.bus := by
  cases r <;> simp [writeReg, writeCmpmod, writeBshed, writeBstat, popEvent]

@[simp] theorem hostWriteReg_bus (r : Reg) (data : Word) (s : State) : (hostWriteReg r data s).bus = s.bus := by
  unfold hostWriteReg; split <;> simp

@[simp] theorem hostRead_bus (o : Nat) (s : State) : (hostRead o s).bus = s.bus := by
  unfold hostRead
  dsimp only
  split <;> simp

@[simp] theorem refuseAccess_bus (offset : BitVec 12) (write : Bool) (bytes : BitVec 4) (data : Word) (s : State) :
    (refuseAccess offset write bytes data s).bus = s.bus := by
  unfold refuseAccess
  cases write <;> simp only [Bool.false_eq_true, if_true, if_false] <;> split <;> simp

@[simp] theorem access_bus (offset : BitVec 12) (write : Bool) (bytes : BitVec 4) (multi : Bool) (data : Word)
    (s : State) : (access offset write bytes multi data s).bus = s.bus := by
  unfold access hostWrite
  split
  · simp
  · split
    · split <;> simp
    · simp

/-! ### The command port and the store controller -/

/-- The command step issues what the command's owner does. -/
theorem runCmd_bus {op : Byte} {owner : Cmd → State → State} {s : State}
    (h : ∀ c, (owner c s).bus = s.bus) : (runCmd op owner s).bus = s.bus := by
  unfold runCmd
  split
  · split
    · split
      · exact h _
      · rfl
    · rfl
  · rfl

@[simp] theorem endCmd_bus (c : Cmd) (res : Result) (b : Word) (s : State) : (endCmd c res b s).bus = s.bus := rfl

@[simp] theorem runUnknown_bus (s : State) : (runUnknown s).bus = s.bus := by
  unfold runUnknown
  split
  · split <;> rfl
  · rfl

@[simp] theorem snapLane_bus (clear : Bool) (n : Fin 4) (s : State) : (snapLane clear n s).bus = s.bus := by
  cases clear <;> simp [snapLane]

@[simp] theorem snapRoute_bus (clear : Bool) (r : Fin 16) (s : State) : (snapRoute clear r s).bus = s.bus := by
  cases clear <;> simp [snapRoute]

theorem foldl_bus {α : Type} {f : State → α → State} (h : ∀ s a, (f s a).bus = s.bus) (l : List α) (s : State) :
    (l.foldl f s).bus = s.bus := by
  induction l generalizing s with
  | nil => rfl
  | cons a l ih => exact (ih (f s a)).trans (h s a)

@[simp] theorem snapCounters_bus (target : Nat) (clear : Bool) (s : State) :
    (snapCounters target clear s).bus = s.bus := by
  unfold snapCounters
  split
  · simp
  · split
    · simp
    · exact (foldl_bus (fun s r => snapRoute_bus clear r s) _ _).trans
        (foldl_bus (fun s n => snapLane_bus clear n s) _ _)

@[simp] theorem runSnapshot_bus (c : Cmd) (s : State) : (runSnapshot c s).bus = s.bus := by
  simp [runSnapshot]

@[simp] theorem runMatchWrite_bus (c : Cmd) (s : State) : (runMatchWrite c s).bus = s.bus := by
  unfold runMatchWrite; split <;> simp

@[simp] theorem runLaneResync_bus (c : Cmd) (s : State) : (runLaneResync c s).bus = s.bus := by
  unfold runLaneResync
  dsimp only
  split <;> simp

@[simp] theorem runQuiesce_bus (c : Cmd) (s : State) : (runQuiesce c s).bus = s.bus := by
  unfold runQuiesce; split <;> rfl

@[simp] theorem runUnquiesce_bus (c : Cmd) (s : State) : (runUnquiesce c s).bus = s.bus := by
  unfold runUnquiesce; split <;> rfl

/-- A route command issues nothing when its effect keeps the units. -/
theorem runRouteCmd_bus {act : Fin 16 → State → State × Result} {s : State}
    (h : ∀ r, KeepsUnits (act r s).1 s) (c : Cmd) : (runRouteCmd act c s).bus = s.bus := by
  have := h c.route
  simp_all [runRouteCmd]

@[simp] theorem runStoreRead_bus (c : Cmd) (s : State) : (runStoreRead c s).bus = s.bus := by
  unfold runStoreRead; split <;> rfl

@[simp] theorem runStoreWrite_bus (c : Cmd) (s : State) : (runStoreWrite c s).bus = s.bus := by
  unfold runStoreWrite
  split
  · rfl
  · split <;> rfl

@[simp] theorem runStoreLock_bus (c : Cmd) (s : State) : (runStoreLock c s).bus = s.bus := by
  unfold runStoreLock
  dsimp only
  split
  · rfl
  · split
    · rfl
    · split <;> rfl

@[simp] theorem runStoreReload_bus (c : Cmd) (s : State) : (runStoreReload c s).bus = s.bus := by
  unfold runStoreReload; split <;> rfl

@[simp] theorem applyPairs_bus (ps : List (Word × Word)) (s : State) : (applyPairs ps s).1.bus = s.bus := by
  induction ps generalizing s with
  | nil => rfl
  | cons p ps ih =>
    have one : (applyPair p s).1.bus = s.bus := by
      unfold applyPair; split <;> simp
    exact (ih _).trans one

@[simp] theorem judgeList_bus (ws : List Word) (s : State) : (judgeList ws s).1.bus = s.bus := by
  unfold judgeList
  split
  · rfl
  · exact applyPairs_bus _ s

@[simp] theorem recordOutcome_bus (o : LoadOutcome) (s : State) : (recordOutcome o s).bus = s.bus := by
  cases o <;> rfl

@[simp] theorem endStoreCmd_bus (res : Result) (b : Word) (s : State) : (endStoreCmd res b s).bus = s.bus := by
  unfold endStoreCmd; split <;> rfl

@[simp] theorem operationEnds_bus (word : Nat) (data : Word) (s : State) :
    (operationEnds word data s).bus = s.bus := by
  unfold operationEnds
  split
  · split <;> rfl
  · split
    · rfl
    · simp [endBoot]
  · simp [endStoreWord]
  · simp [endStoreWord]
  · split
    · rfl
    · simp [endReload]
  all_goals rfl

@[simp] theorem operationFails_bus (word : Nat) (s : State) : (operationFails word s).bus = s.bus := by
  unfold operationFails
  split <;> simp [endBoot, endStoreWord, endReload]

@[simp] theorem opDone_bus (data : Word) (s : State) : (opDone data s).bus = s.bus := by
  unfold opDone
  split
  · split <;> simp
  · rfl

@[simp] theorem opFail_bus (s : State) : (opFail s).bus = s.bus := by
  unfold opFail
  split
  · split <;> simp
  · rfl

@[simp] theorem bootStart_bus (s : State) : (bootStart s).bus = s.bus := by
  unfold bootStart; split <;> rfl

/-! ### The delivery engine's steps that issue nothing -/

/-- An engine step issues nothing when its effect issues nothing. -/
theorem engineStep_bus {f : State → State} {s : State} (h : (f s).bus = s.bus) : (engineStep f s).bus = s.bus := by
  unfold engineStep
  split
  · rfl
  · exact h

@[simp] theorem readDone_bus (r : Fin 16) (answer : ReadAnswer) (s : State) : (readDone r answer s).bus = s.bus := by
  unfold readDone
  split
  · rfl
  · split
    · split <;> simp [endRead]
    · rfl

@[simp] theorem readTimeout_bus (r : Fin 16) (s : State) : (readTimeout r s).bus = s.bus := by
  unfold readTimeout
  split
  · unfold timeOldRead
    dsimp only
    split <;> rfl
  · split
    · split <;> simp [endRead]
    · rfl

@[simp] theorem placeTurn_bus (s : State) : (placeTurn s).bus = s.bus := by
  unfold placeTurn
  split
  · split
    · rfl
    · dsimp only
      split
      · unfold takeTurn
        split
        · simp [oversizeRecord]
        · split <;> simp [startRecord]
      · rfl
  · rfl

/-! ### What issues transactions (R13, R14) -/

/-- From s to t transactions have gone out behind those of s, and none while MASTER_EN is 0 (R14). -/
def Issues (s t : State) : Prop := s.bus <+: t.bus ∧ (s.host.masterEn = false → t.bus = s.bus)

/-- What issues nothing issues nothing while MASTER_EN is 0. -/
theorem Issues.of_eq {s t : State} (h : t.bus = s.bus) : Issues s t := ⟨h ▸ List.prefix_rfl, fun _ => h⟩

/-- What goes out while MASTER_EN is 1 goes out behind the rest. -/
theorem Issues.of_masterEn {s t : State} (hen : s.host.masterEn = true) (h : s.bus <+: t.bus) : Issues s t :=
  ⟨h, fun h0 => absurd hen (by simp [h0])⟩

theorem Issues.trans {s t u : State} (h : Issues s t) (hhost : t.host = s.host) (k : Issues t u) : Issues s u :=
  ⟨h.1.trans k.1, fun h0 => (k.2 (hhost ▸ h0)).trans (h.2 h0)⟩

theorem issue_bus (t : BusTxn) (s : State) : (issue t s).bus = s.bus ++ [t] := rfl

theorem fetch_issues (r : Fin 16) (s : State) : Issues s (fetch r s) := by
  unfold fetch
  dsimp only
  split
  next h =>
    simp only [mayFetch, Bool.and_eq_true] at h
    obtain ⟨⟨⟨-, hen⟩, -⟩, -⟩ := h
    exact .of_masterEn hen (List.prefix_append _ _)
  next => exact .of_eq rfl

theorem payloadOne_bus_prefix (p : InProgress) (s : State) : s.bus <+: (payloadOne p s).bus := by
  unfold payloadOne
  split
  · dsimp only
    split
    · exact List.prefix_append _ _
    · simp [finishRecord, issue_bus]
  · exact List.prefix_rfl

theorem payloadLoop_bus_prefix (k : Nat) (s : State) : s.bus <+: (payloadLoop k s).bus := by
  induction k generalizing s with
  | zero => exact List.prefix_rfl
  | succ k ih =>
    unfold payloadLoop
    split
    · exact List.prefix_rfl
    · exact (payloadOne_bus_prefix _ s).trans (ih _)

theorem continueRecord_issues (k : Nat) (s : State) : Issues s (continueRecord k s) := by
  unfold continueRecord
  split
  next hen => exact .of_masterEn hen (payloadLoop_bus_prefix k s)
  next => exact .of_eq rfl

@[simp] theorem joinBacklog_bus (e : Completion) (s : State) : (joinBacklog e s).bus = s.bus := by
  unfold joinBacklog
  dsimp only
  split <;> rfl

/-- The making of an entry issues it, if it goes to the ring. -/
theorem makeEntry_issues (e : Completion) {made : State → State} {s : State} (h : (made s).bus = s.bus) :
    Issues s (makeEntry e made s) := by
  rcases makeEntry_cases e made s with ⟨eq, -⟩ | ⟨eq, -, -, hen⟩ | ⟨eq, -⟩ <;> rw [eq]
  · exact .of_eq ((joinBacklog_bus e _).trans h)
  · exact .of_masterEn hen (h ▸ List.prefix_append _ _)
  · exact .of_eq rfl

theorem completeBuffer_issues (r : Fin 16) (s : State) : Issues s (completeBuffer r s) := by
  unfold completeBuffer
  split
  · split
    · split
      · exact .of_eq rfl
      · exact makeEntry_issues _ rfl
    · exact .of_eq rfl
  · exact .of_eq rfl

theorem cancelOne_issues (r : Fin 16) (s : State) : Issues s (cancelOne r s) := by
  unfold cancelOne
  split
  · exact makeEntry_issues _ rfl
  · exact .of_eq rfl

theorem drainLoop_issues (k : Nat) (s : State) : Issues s (drainLoop k s) := by
  induction k generalizing s with
  | zero => exact .of_eq rfl
  | succ k ih =>
    unfold drainLoop
    split
    · exact .of_eq rfl
    · split
      next go =>
        have one (e : Completion) (rest : List Completion) :
            Issues s (postEntry e { s with eng := { s.eng with backlog := rest } }) :=
          .of_masterEn go.2 (List.prefix_append _ _)
        dsimp only
        split
        · exact one _ _
        · exact (one _ _).trans rfl (ih _)
      next => exact .of_eq rfl

theorem engineStep_issues {f : State → State} {s : State} (h : Issues s (f s)) : Issues s (engineStep f s) := by
  unfold engineStep
  split
  · exact .of_eq rfl
  · exact h

/-! ### Interrupt messages (R17, R155) -/

/-- From s to t interrupt messages and nothing else have gone out, none while MASTER_EN is 0, and the host port is as it
was. -/
def Messages (s t : State) : Prop :=
  t.host = s.host ∧ ∃ k, t.bus = s.bus ++ List.replicate k .message ∧ (s.host.masterEn = false → k = 0)

theorem Messages.none {s t : State} (hhost : t.host = s.host) (hbus : t.bus = s.bus) : Messages s t :=
  ⟨hhost, 0, by simp [hbus], fun _ => rfl⟩

theorem Messages.one {s t : State} (hhost : t.host = s.host) (hen : s.host.masterEn = true)
    (hbus : t.bus = s.bus ++ [.message]) : Messages s t :=
  ⟨hhost, 1, hbus, fun h0 => absurd hen (by simp [h0])⟩

theorem Messages.trans {s t u : State} (h : Messages s t) (k : Messages t u) : Messages s u := by
  obtain ⟨hhost, m, hbus, hm⟩ := h
  obtain ⟨khost, n, kbus, hn⟩ := k
  exact ⟨khost.trans hhost, m + n, by rw [kbus, hbus, List.append_assoc, List.replicate_append_replicate],
    fun h0 => by rw [hm h0, hn (hhost ▸ h0)]⟩

theorem Messages.issues {s t : State} (h : Messages s t) : Issues s t := by
  obtain ⟨-, k, hbus, hk⟩ := h
  exact ⟨hbus ▸ List.prefix_append _ _, fun h0 => by rw [hbus, hk h0]; simp⟩

theorem releaseHeld_messages (s : State) : Messages s (releaseHeld s) := by
  unfold releaseHeld
  split
  next h =>
    rw [Bool.and_eq_true] at h
    exact .one rfl h.2 rfl
  next => exact .none rfl rfl

theorem messageAt_messages (s : State) : Messages s (messageAt s) := by
  unfold messageAt askMessage
  dsimp only
  split
  · split
    next hen => exact .one rfl hen rfl
    next => exact .none rfl rfl
  · exact .none rfl rfl

/-- What the lanes' last bits caused issues nothing, and a held message may go out. -/
theorem passTo_messages (k : Nat) (s : State) : Messages s (passTo k s) := by
  have settled (ns : List (Fin 4)) : Messages s (ns.foldl (fun u n => settleLane n u) s) := by
    obtain ⟨hhost, -, -, -, -, -, hbus, -⟩ := foldl_keepsUnits (fun u n => settleLane_keepsUnits n u) ns s
    exact .none hhost hbus
  unfold passTo
  dsimp only
  generalize hu : (if s.ctl.resetBusy = true then s else _) = u
  have lanes : Messages s u := by
    subst hu
    split
    · exact .none rfl rfl
    · exact settled _
  split
  · exact lanes.trans (releaseHeld_messages u)
  · exact lanes

theorem tick_messages (s : State) : Messages s (tick s) :=
  (passTo_messages tickEnd s).trans ((messageAt_messages _).trans (.none rfl rfl))

/-- What comes about as the tick moves on to a command is interrupt messages alone. -/
theorem arrive_messages (c : Instr) (s : State) : Messages s (arrive c s) := by
  have ticked : Messages s (tickFor c s) := by
    unfold tickFor
    split
    · exact .none rfl rfl
    · exact tick_messages s
  exact ticked.trans ((passTo_messages _ _).trans (.none rfl rfl))

/-! ### What a command issues -/

/-- A command that is no delivery engine step and no interrupt message issues nothing in its turn (R13). -/
theorem exec_silent {i : Instr} (h : mayIssue i = false) (s : State) :
    ∃ t, exec i s = .next t ∧ t.bus = (arrive i s).bus := by
  cases i with
  | descriptorFetch | payloadWrite | completionEntry | cancelEntry | backlogDrain | interruptMessage => cases h
  | powerOnReset | hostReset | lateResponse => exact ⟨_, rfl, rfl⟩
  | nop | matchWrite | laneResync | counterSnapshot | epochLoadNow | storeRead | storeWrite | storeLock
  | storeReload | quiesce | unquiesce => exact ⟨_, rfl, runCmd_bus fun c => by simp [runNop, runEpochLoad, loadEpoch]⟩
  | routeArm | routeStart | routeStop | routeAbort | routeResume | routeFlush =>
    exact ⟨_, rfl, runCmd_bus fun c => runRouteCmd_bus (fun r => by simp) c⟩
  | bufferOpen | recordPlace | lingerExpiry | bufferCloseStop | bufferCloseQuiesce =>
    exact ⟨_, rfl, engineStep_bus (by simp)⟩
  | routeDrained | routeAbortDone | quiesced =>
    exact ⟨_, rfl, engineStep_bus (by split <;> simp [enterQuiesced])⟩
  | _ => exact ⟨_, rfl, by simp⟩

theorem exec_issues (i : Instr) (s : State) : ∃ t, exec i s = .next t ∧ Issues (arrive i s) t := by
  cases hi : mayIssue i with
  | false =>
    obtain ⟨t, hexec, hbus⟩ := exec_silent hi s
    exact ⟨t, hexec, .of_eq hbus⟩
  | true =>
    cases i with
    | descriptorFetch => exact ⟨_, rfl, engineStep_issues (fetch_issues _ _)⟩
    | payloadWrite => exact ⟨_, rfl, engineStep_issues (continueRecord_issues _ _)⟩
    | completionEntry => exact ⟨_, rfl, engineStep_issues (completeBuffer_issues _ _)⟩
    | cancelEntry => exact ⟨_, rfl, engineStep_issues (cancelOne_issues _ _)⟩
    | backlogDrain => exact ⟨_, rfl, engineStep_issues (drainLoop_issues _ _)⟩
    | interruptMessage =>
      refine ⟨_, rfl, ?_⟩
      dsimp only
      split
      · exact .of_eq rfl
      · exact (messageAt_messages _).issues
    | _ => cases hi

/-- The turn of a command and what it then does. -/
theorem issues_of_exec {i : Instr} {s t : State} (h : exec i s = .next t) : Issues s t := by
  obtain ⟨u, hexec, hu⟩ := exec_issues i s
  obtain rfl : u = t := by rw [h] at hexec; cases hexec; rfl
  have turn := arrive_messages i s
  exact turn.issues.trans turn.1 hu

/-- Settles O11: a command issues as `issues_of_exec` says, the end of a tick as `tick_messages` says; a command that is
no engine step is `exec_silent`, and what comes about before it is `arrive_messages`. -/
theorem transactionsNeedTheEngineAndMasterEn : Obligations.TransactionsNeedTheEngineAndMasterEn := by
  refine ⟨fun s t hen hstep => ?_, fun i s t hi hexec => ?_, fun i s => ?_, fun i s t hexec => (issues_of_exec hexec).1⟩
  · unfold step at hstep
    split at hstep
    · cases hstep
      exact (tick_messages s).issues.2 hen
    · exact (issues_of_exec hstep).2 hen
  · obtain ⟨u, hu, hbus⟩ := exec_silent hi s
    rw [hexec] at hu
    cases hu
    exact hbus
  · obtain ⟨-, k, hbus, -⟩ := arrive_messages i s
    exact ⟨k, hbus⟩

end Sys2Proof.Machine
end

section
/-! SUPPORT. Descriptor reads and payload writes of the engine (R112, R118 to R121): the statements O52 and O56. -/

namespace Sys2Proof.Machine

/-! ### Descriptor fetch (R112) -/

/-- R112, R180 and R182 in terms of the state. -/
theorem mayFetch_iff (s : State) (r : Fin 16) :
    mayFetch s r = true ↔
      ((s.route r).st = .running ∨ (s.route r).st = .stopping) ∧ (s.route r).read = none
        ∧ (s.route r).cache.length < 2 ∧ (s.route r).rpost ≠ (s.route r).rfetch ∧ s.host.masterEn = true
        ∧ ¬(quieting s = true ∧ (s.route r).st = .running ∧ settled s r = true) ∧ s.ctl.quiesced = false := by
  simp only [mayFetch, Route.delivers, Bool.and_eq_true, Bool.or_eq_true, beq_iff_eq, Option.isNone_iff_eq_none,
    decide_eq_true_eq, bne_iff_ne, Bool.not_eq_true', ← Bool.not_eq_true, and_assoc]

/-- A read that may be issued. -/
theorem fetch_issued {s : State} {r : Fin 16} (h : mayFetch s r = true) :
    fetch r s =
      { s.setRoute r
          { s.route r with
            rfetch := (s.route r).rfetch + BitVec.ofNat 16 (s.route r).fetchCount
            read := some { start := (s.route r).rfetch, n := (s.route r).fetchCount, age := 0, stale := false } } with
        bus := s.bus ++ [.read r ((s.route r).slotAddr (s.route r).rfetch) (s.route r).fetchCount] } := if_pos h

theorem fetch_withheld {s : State} {r : Fin 16} (h : ¬mayFetch s r = true) : fetch r s = s := if_neg h

/-- Settles O52: the conditions are those of `mayFetch`, and the two cases are `fetch_issued` and `fetch_withheld`. -/
theorem fetchAsksForWhatFits : Obligations.FetchAsksForWhatFits := by
  intro r s x slots n
  constructor
  · intro hbusy hst hread hcache hpost hen hquiesced hquiet
    have act : Acts (.descriptorFetch r) s (fetch r s) := acts_engineStep (fun _ => rfl) hbusy
    have may : mayFetch s r = true := by
      rw [mayFetch_iff]
      refine ⟨hst, hread, hcache, hpost, hen, ?_, hquiesced⟩
      rintro ⟨hq, hrun, hsettled⟩
      have hquiescing : s.ctl.quiescing = true := by simpa [quieting, hquiesced] using hq
      rcases hquiet with h | h | h
      · simp [h] at hquiescing
      · exact absurd (hrun.symm.trans h) (by decide)
      · simp [h] at hsettled
    rwa [fetch_issued may] at act
  · intro hno
    have act : Acts (.descriptorFetch r) s (engineStep (fetch r) s) := acts_inTurn (fun _ => rfl) s
    have withheld : ¬mayFetch s r = true := by
      rw [mayFetch_iff]
      rintro ⟨hst, hread, hcache, hpost, hen, hquiet, hquiesced⟩
      rcases hno with ⟨h1, h2⟩ | h | h | h | h | h | ⟨h1, h2, h3⟩
      · exact hst.elim h1 h2
      · exact h hread
      · exact absurd hcache (Nat.not_lt.mpr h)
      · exact hpost h
      · simp [h] at hen
      · simp [h] at hquiesced
      · exact hquiet ⟨by simp [quieting, h1], h2, h3⟩
    have stays : engineStep (fetch r) s = s := by
      unfold engineStep
      split
      · rfl
      · exact fetch_withheld withheld
    rwa [stays] at act

/-! ### Payload writes (R118, R119, R121) -/

/-- What the departure of a head record leaves: its route without it, and its blocks in the free list. -/
theorem dropHead_reads {s : State} {r : Fin 16} {x : Record} {rest : List Record} (lost : Bool)
    (h : (s.route r).queue = x :: rest) :
    (dropHead r lost s).route r = { s.route r with queue := rest }
      ∧ (∀ q, q ≠ r → (dropHead r lost s).route q = s.route q)
      ∧ (dropHead r lost s).buf.free = s.buf.free ++ x.chain ∧ (dropHead r lost s).buf.mem = s.buf.mem := by
  obtain ⟨sh, ev, trigs, e, -⟩ := dropHead_frame r lost s x rest h
  have routes (q : Fin 16) : (dropHead r lost s).route q = (s.setRoute r { s.route r with queue := rest }).route q := by
    rw [e]
    cases lost && x.mark <;> rfl
  exact ⟨(routes r).trans (route_setRoute _ _ _), fun q hq => (routes q).trans (route_setRoute_ne _ _ hq), by rw [e],
    by rw [e]⟩

/-- The end of a payload: the record leaves its queue, its blocks go free, and LENGTH and the buffer count it. -/
theorem finishRecord_reads {s : State} {r : Fin 16} {x : Record} {rest : List Record}
    (h : (s.route r).queue = x :: rest) :
    (finishRecord r x s).route r
        = { { s.route r with queue := rest }.count .bytes x.length with
            buf := (s.route r).buf.map (fun b => b.take x (s.route r).single (s.route r).lingerLimit) }
      ∧ (∀ q, q ≠ r → (finishRecord r x s).route q = s.route q)
      ∧ (finishRecord r x s).buf.free = s.buf.free ++ x.chain ∧ (finishRecord r x s).buf.mem = s.buf.mem
      ∧ (finishRecord r x s).eng = { s.eng with inProg := none } ∧ (finishRecord r x s).bus = s.bus
      ∧ (finishRecord r x s).host = s.host := by
  obtain ⟨route_r, route_ne, free, mem⟩ := dropHead_reads false h
  obtain ⟨host, eng, -, -, -, -, bus, -⟩ := dropHead_keepsUnits r false s
  have routes (q : Fin 16) : (finishRecord r x s).route q
      = ((dropHead r false s).modRoute r (fun t =>
          { t.count .bytes x.length with buf := t.buf.map (fun b => b.take x t.single t.lingerLimit) })).route q := rfl
  refine ⟨?_, fun q hq => ?_, free, mem, ?_, bus, host⟩
  · rw [routes, route_modRoute, route_r]
    rfl
  · rw [routes, route_modRoute_ne _ _ hq, route_ne q hq]
  · exact congrArg (fun e : Engine => { e with inProg := none }) eng

/-- A payload write that is not the record's last one. -/
theorem payloadOne_eq {s : State} {p : InProgress} {x : Record} {rest : List Record} {b : Buffer}
    (hq : (s.route p.route).queue = x :: rest) (hb : (s.route p.route).buf = some b) :
    let addr := b.address + BitVec.ofNat 64 (p.off + p.done)
    let n := writeSize addr (roundUp8 x.length - p.done)
    let issued := issue (.payload addr (payloadBytes s.buf.mem x p.done n)) s
    payloadOne p s =
      if p.done + n < roundUp8 x.length then
        { issued with eng := { s.eng with inProg := some { p with done := p.done + n } } }
      else finishRecord p.route x issued := by
  simp only [payloadOne, hq, hb]
  rfl

theorem payloadOne_host (p : InProgress) (s : State) : (payloadOne p s).host = s.host := by
  unfold payloadOne
  split
  · dsimp only
    split
    · rfl
    next x rest b hq hb h => exact (finishRecord_reads (s := issue _ s) hq).2.2.2.2.2.2
  · rfl

theorem payloadLoop_none {s : State} (h : s.eng.inProg = none) (k : Nat) : payloadLoop k s = s := by
  cases k <;> simp [payloadLoop, h]

/-- One write and then k more. -/
theorem payloadLoop_succ (k : Nat) (s : State) : payloadLoop (k + 1) s = payloadLoop k (payloadLoop 1 s) := by
  cases h : s.eng.inProg with
  | none => simp [payloadLoop_none h]
  | some p => simp [payloadLoop, h]

theorem payloadLoop_host (k : Nat) (s : State) : (payloadLoop k s).host = s.host := by
  induction k generalizing s with
  | zero => rfl
  | succ k ih =>
    unfold payloadLoop
    split
    · rfl
    · exact (ih _).trans (payloadOne_host _ s)

theorem continueRecord_enabled {s : State} (h : s.host.masterEn = true) (k : Nat) :
    continueRecord k s = payloadLoop k s := if_pos h

theorem continueRecord_disabled {s : State} (h : s.host.masterEn = false) (k : Nat) : continueRecord k s = s := by
  simp [continueRecord, h]

theorem continueRecord_succ (k : Nat) (s : State) :
    continueRecord (k + 1) s = continueRecord k (continueRecord 1 s) := by
  cases h : s.host.masterEn with
  | false => simp only [continueRecord_disabled h]
  | true =>
    rw [continueRecord_enabled h, continueRecord_enabled h, continueRecord_enabled (by rw [payloadLoop_host, h]),
      payloadLoop_succ]

theorem Buffer.take_eq (b : Buffer) (x : Record) (single : Bool) (lingerLimit : Nat) :
    let used := roundUp8 (b.used + x.length)
    let closed : Option Reason :=
      if b.closed ≠ none then b.closed
      else if single then some .single else if b.length < used + Config.minRoom then some .full else none
    b.take x single lingerLimit =
      { b with
        used := used, count := b.count + 1, pretrig := b.pretrig || x.pretrig, fcsBad := b.fcsBad || x.fcsBad
        seq := b.seq || x.seqFlag, mark := b.mark || x.mark
        linger := if closed = none ∧ lingerLimit ≠ 0 then some 0 else none
        closed := closed } := by
  cases h : b.closed <;> simp [Buffer.take, h]

/-- Settles O56: one write is `payloadOne`, whose last one of a record is `finishRecord_reads` and `Buffer.take_eq`; the
row of writes is `continueRecord_succ`. -/
theorem payloadWriteMovesTheRecord : Obligations.PayloadWriteMovesTheRecord := by
  refine ⟨?one, fun k s hbusy => ⟨acts_engineStep (fun _ => rfl) hbusy, ?zero, continueRecord_succ k s, ?still⟩⟩
  case zero =>
    unfold continueRecord
    split <;> rfl
  case still =>
    rintro (h | h)
    · exact continueRecord_disabled h k
    · unfold continueRecord
      split
      · exact payloadLoop_none h k
      · rfl
  case one =>
    intro p x rest b s hbusy hen hp hq hb y total addr n used closed t
    have write := payloadOne_eq hq hb
    obtain ⟨hlen, hbytes⟩ := payloadBytes_spec s.buf.mem x n p.done
    have ht : t = payloadOne p s := by
      change continueRecord 1 s = _
      simp [continueRecord, hen, payloadLoop, hp]
    have act : Acts (.payloadWrite 1) s t := acts_engineStep (f := continueRecord 1) (fun _ => rfl) hbusy
    refine ⟨payloadBytes s.buf.mem x p.done n, act, ?_⟩
    by_cases hmore : p.done + n < total
    case pos =>
      have ht := ht.trans (write.trans (if_pos hmore))
      rw [ht]
      exact ⟨rfl, hlen, hbytes, rfl, fun _ _ => rfl, fun _ => ⟨rfl, rfl, rfl, rfl⟩,
        fun hlast => absurd hmore (Nat.not_lt.mpr hlast)⟩
    case neg =>
      have ht := ht.trans (write.trans (if_neg hmore))
      obtain ⟨route_p, route_ne, free, mem, eng, bus, -⟩ :=
        finishRecord_reads (s := issue (.payload addr (payloadBytes s.buf.mem x p.done n)) s) hq
      rw [ht]
      refine ⟨bus, hlen, hbytes, mem, route_ne, fun h => absurd h hmore, fun _ => ⟨eng, ?_, free, ?_, ?_⟩⟩
      · exact congrArg Route.queue route_p
      · exact (congrArg (Route.counter · .bytes) route_p).trans (route_counter_count_self _ _ _)
      · have taken : (s.route p.route).buf.map (fun b => b.take x y.single y.lingerLimit)
            = some (b.take x y.single y.lingerLimit) := congrArg _ hb
        exact (congrArg Route.buf route_p).trans (taken.trans (congrArg some (Buffer.take_eq b x _ _)))

end Sys2Proof.Machine
end

section
/-! SUPPORT. COMPL, its moderation, interrupt messages and DEVCTL (R11, R17, R152 to R157): the statement O41. -/

namespace Sys2Proof.Machine

/-- The write row at a register's offset is the host write of that register (R6). -/
theorem acts_registerWrite {o : BitVec 12} {r : Reg} (h : regOffset r = o.toNat) (data : Word) (s : State) :
    Acts (.registerWrite o data) s (hostWriteReg r data s) := by
  have found : regAt o.toNat = some r := h ▸ regAt_regOffset r
  have aligned := (regAt_bounds found).1
  have act : Acts (.registerWrite o data) s (access o true (firstEnables o) false data s) :=
    acts_inTurn (fun _ => rfl) s
  have whole : firstEnables o = 0xF#4 := by simp [firstEnables, aligned]
  have write : hostWrite o.toNat data s = hostWriteReg r data s := by rw [hostWrite, found]
  rwa [whole, access_whole aligned, if_pos rfl, write] at act

/-! ### COMPL and its moderation (R152, R156, R157) -/

/-- A write of INTSTAT that leaves COMPL alone. -/
theorem writeIntstat_keep {data : Word} (h : data.getLsbD 1 = false) (s : State) :
    writeIntstat data s =
      { s with
        irq := { s.irq with tick := s.irq.tick && !data.getLsbD 3, sync := s.irq.sync && !data.getLsbD 4 } } := by
  unfold writeIntstat
  rw [h]
  rfl

/-- A write of INTSTAT that clears COMPL. -/
theorem writeIntstat_clear {data : Word} (h : data.getLsbD 1 = true) (s : State) :
    writeIntstat data s =
      { s with
        irq :=
          { s.irq with
            tick := s.irq.tick && !data.getLsbD 3, sync := s.irq.sync && !data.getLsbD 4, compl := s.irq.complNow
            modCount := 0
            modTimer :=
              if s.eng.crEnable = true ∧ s.eng.crprod ≠ s.eng.crcons ∧ s.irq.cmpTimer ≠ 0#16 then some 0
              else none } } := by
  unfold writeIntstat
  rw [h]
  simp only [if_true, Bool.and_eq_true, bne_iff_ne, and_assoc]

/-- A field of a word is 0 when its bits are. -/
theorem fieldOf_eq_zero_iff (x : Word) (lo len : Nat) : fieldOf x lo len = 0 ↔ x.extractLsb' lo len = 0#len := by
  rw [← BitVec.toNat_inj, BitVec.extractLsb'_toNat, Nat.shiftRight_eq_div_pow, BitVec.toNat_ofNat, Nat.zero_mod]
  rfl

/-- A DEVCTL write without RESET sets the three enables; LINE drops a held message and MESSAGE releases INTL. -/
theorem writeDevctl_enables {data : Word} (h : data.getLsbD 31 = false) (s : State) :
    writeDevctl data true s =
      { s with
        host :=
          { s.host with
            masterEn := data.getLsbD 0, intMaster := data.getLsbD 1, intMode := data.getLsbD 2 }
        irq := { s.irq with held := s.irq.held && data.getLsbD 2, intl := s.irq.intl && !data.getLsbD 2 } } := by
  unfold writeDevctl
  rw [h]
  rfl

/-- The moderation count after one more entry. -/
theorem report_modCount (q : Interrupts) (intReq : Bool) :
    (q.report intReq).modCount.toNat = min (q.modCount.toNat + 1) 255 := by
  unfold Interrupts.report
  dsimp only
  split
  next h => simp [h]
  next h =>
    have : q.modCount.toNat ≠ 255 := fun e => h (BitVec.eq_of_toNat_eq e)
    bv_omega

/-- COMPL is set by INT_REQ or by the count that the report leaves. -/
theorem report_eq (q : Interrupts) (intReq : Bool) :
    q.report intReq =
      { q with
        modCount := (q.report intReq).modCount
        modTimer :=
          if q.modTimer = none ∧ q.cmpTimer ≠ 0#16 ∧ (q.report intReq).modCount = 1#8 then some 0 else q.modTimer
        compl := q.compl || intReq || decide (q.cmpCount.toNat ≤ (q.report intReq).modCount.toNat)
        complNow := q.complNow || intReq || decide (q.cmpCount.toNat ≤ (q.report intReq).modCount.toNat) } := by
  simp [Interrupts.report, Bool.or_assoc, and_assoc]

/-! ### Interrupt messages (R17, R155) -/

theorem messageRises_iff (s : State) :
    messageRises s = true ↔ s.host.intMode = true ∧ s.host.intMaster = true ∧ intActive s ≠ 0#5
      ∧ s.irq.prevReq = false ∧ s.irq.asked = false := by
  simp [messageRises, intRequest, and_assoc]

/-- The rise of the request issues a message, or holds it. -/
theorem messageAt_rise {s : State} (h : messageRises s = true) :
    messageAt s =
      if s.host.masterEn then { s with irq := { s.irq with asked := true }, bus := s.bus ++ [.message] }
      else { s with irq := { s.irq with asked := true, held := true } } := by
  rw [messageAt, if_pos h]
  rfl

theorem messageAt_still {s : State} (h : ¬messageRises s = true) : messageAt s = s := if_neg h

/-- Where every lane is settled the tick moves on to step 7 by releasing the held message. -/
theorem passTo_engineStart {s : State} (h : ∀ n, laneQuiet (s.lane n) = true) :
    passTo engineStart s = releaseHeld s := by
  have settled : (if s.ctl.resetBusy then s
      else (allLanes.filter (fun n => decide (laneSlot n 2 < engineStart))).foldl (fun s n => settleLane n s) s) = s := by
    rw [settleAll_quiet s _ fun n _ => h n, ite_self]
  unfold passTo
  rw [settled]
  exact if_pos le_rfl

theorem interruptMessage_releases {s : State} (hheld : s.irq.held = true) (hen : s.host.masterEn = true)
    (hpos : s.pos < 7000) (hquiet : ∀ n, laneQuiet (s.lane n) = true) :
    arrive .interruptMessage s
      = { s with irq := { s.irq with held := false }, bus := s.bus ++ [.message], pos := 7000 } := by
  have here : slot s .interruptMessage = engineStart := by simp [slot, hheld, hen]
  have due : inOrder .interruptMessage s = true := by
    simp only [inOrder, here, Bool.or_eq_true, decide_eq_true_eq]
    exact .inl hpos
  have released : releaseHeld s = { s with irq := { s.irq with held := false }, bus := s.bus ++ [.message] } := by
    simp [releaseHeld, hheld, hen, issue]
  simp only [arrive, tickFor, due, if_true, here, passTo_engineStart hquiet, released]
  rfl

/-- Settles O41: the three register writes by their equations, a posted entry by `report_eq`, the messages by
`messageAt_rise`, `messageAt_still` and `interruptMessage_releases`. -/
theorem moderationAndMessages : Obligations.ModerationAndMessages := by
  refine ⟨fun data s hload hbusy => ?writes, fun q intReq => ?report, fun s => ?messages⟩
  case writes =>
    have writable (r : Reg) := hostWriteReg_writable hload hbusy r data
    intro q count timer reached
    refine ⟨fun hclear => ?clear, ?cmpmod, fun hreset => ?devctl⟩
    case clear =>
      have act : Acts (.complClear data) s (hostWriteReg .intstat data s) := acts_inTurn (fun _ => rfl) s
      rw [writable, writeReg, writeIntstat_clear hclear] at act
      exact act
    case cmpmod =>
      have act : Acts (.cmpmodWrite data) s (hostWriteReg .cmpmod data s) := acts_inTurn (fun _ => rfl) s
      rw [writable, writeReg, writeCmpmod] at act
      simpa only [fieldOf_eq_zero_iff] using act
    case devctl =>
      have act : Acts (.registerWrite 0x004 data) s (hostWriteReg .devctl data s) := acts_registerWrite rfl data s
      rw [writable, writeReg, writeDevctl_enables hreset] at act
      exact act
  case report =>
    intro k reached
    have count := report_modCount q intReq
    have one : (q.report intReq).modCount = 1#8 ↔ k = 1 := by
      rw [← BitVec.toNat_inj, count]
      rfl
    have eq := report_eq q intReq
    refine ⟨count, ?_, ?_, ?_, rfl, rfl, rfl⟩
    · rw [eq]
      simp [count, reached, k, or_assoc]
    · rw [eq]
      simp [count, reached, k, or_assoc]
    · rw [eq]
      simp [one]
  case messages =>
    intro rises
    have expiry : Acts .moderationTimerExpiry s (expireAt s) := acts_inTurn (fun _ => rfl) s
    have message : Acts .interruptMessage s (if s.pos = engineStart then s else messageAt s) :=
      acts_inTurn (f := fun t => if t.pos = engineStart then t else messageAt t) (fun _ => rfl) s
    refine ⟨fun k hk htimer hdue => ?expired, fun hnot => ?running, fun hrise hpos => ?rise, fun hno => ?still,
      fun hheld hen hpos hquiet => ?release⟩
    case expired =>
      rwa [expireAt, if_pos (by simp [moderationDue, hk, htimer, hdue])] at expiry
    case running =>
      rwa [expireAt, if_neg] at expiry
      rcases hnot with h | ⟨k, hk, hlt⟩
      · simp [moderationDue, h]
      · simp [moderationDue, hk, hlt]
    case rise =>
      have behind : s.pos ≠ engineStart := hpos
      rw [if_neg behind, messageAt_rise ((messageRises_iff s).mpr hrise)] at message
      exact ⟨fun hen => by rwa [if_pos hen] at message, fun hen => by rwa [hen] at message⟩
    case still =>
      have stays : (if s.pos = engineStart then s else messageAt s) = s := by
        split
        · rfl
        next hpos =>
          exact messageAt_still fun h => hno.elim (· ((messageRises_iff s).mp h)) hpos
      rwa [stays] at message
    case release =>
      change Host.Outcome.next (if (arrive .interruptMessage s).pos = engineStart then _ else _) = _
      rw [interruptMessage_releases hheld hen hpos hquiet]
      rfl

end Sys2Proof.Machine
end

section
/-! SUPPORT. Fields of a register word and the configuration of trigger lines (R137, R138, R142, R143): the statement O36. -/

namespace Sys2Proof.Machine

/-! ### Fields -/

/-- Bit i of a field. -/
theorem testBit_fieldOf (x : Word) (lo len i : Nat) :
    (fieldOf x lo len).testBit i = (decide (i < len) && x.getLsbD (lo + i)) := by
  rw [fieldOf, Nat.testBit_mod_two_pow, Nat.testBit_div_two_pow, Nat.add_comm i lo]
  rfl

/-- Words that agree on the bits of a field have the same field. -/
theorem fieldOf_congr {x y : Word} {lo len : Nat} (h : ∀ i, lo ≤ i → i < lo + len → x.getLsbD i = y.getLsbD i) :
    fieldOf x lo len = fieldOf y lo len := by
  apply Nat.eq_of_testBit_eq
  intro i
  rw [testBit_fieldOf, testBit_fieldOf]
  by_cases hi : i < len
  · rw [h (lo + i) (by omega) (by omega)]
  · simp [hi]

/-- A bit of the word within a field is one of the field's bits. -/
theorem getLsbD_eq_testBit_fieldOf (x : Word) {lo len i : Nat} (h1 : lo ≤ i) (h2 : i < lo + len) :
    x.getLsbD i = (fieldOf x lo len).testBit (i - lo) := by
  rw [testBit_fieldOf, Nat.add_sub_cancel' h1, decide_eq_true (by omega), Bool.true_and]

/-- A field is all ones when each of its bits is 1. -/
theorem getLsbD_of_fieldOf_ones {m : Word} {lo len : Nat} (h : fieldOf m lo len = 2 ^ len - 1) {i : Nat}
    (h1 : lo ≤ i) (h2 : i < lo + len) : m.getLsbD i = true := by
  rw [getLsbD_eq_testBit_fieldOf m h1 h2, h, Nat.testBit_two_pow_sub_one, decide_eq_true (by omega)]

/-- A field is 0 when each of its bits is 0. -/
theorem getLsbD_of_fieldOf_zero {m : Word} {lo len : Nat} (h : fieldOf m lo len = 0) {i : Nat}
    (h1 : lo ≤ i) (h2 : i < lo + len) : m.getLsbD i = false := by
  rw [getLsbD_eq_testBit_fieldOf m h1 h2, h, Nat.zero_testBit]

/-- The bits of a field's mask. -/
theorem getLsbD_maskOf {lo len i : Nat} (hi : i < 32) :
    (maskOf lo len).getLsbD i = decide (lo ≤ i ∧ i < lo + len) := by
  rw [maskOf, BitVec.getLsbD_ofNat, Nat.testBit_mul_two_pow, Nat.testBit_two_pow_sub_one]
  by_cases h : lo ≤ i
  · simp [hi, h, Nat.sub_lt_iff_lt_add' h]
  · simp [h]

/-- A bit of a merge is that of the word the mask selects. -/
theorem getLsbD_mergeBits (mask old new : Word) (i : Nat) :
    (mergeBits mask old new).getLsbD i = if mask.getLsbD i then new.getLsbD i else old.getLsbD i := by
  simp only [mergeBits, BitVec.getLsbD_or, BitVec.getLsbD_and, BitVec.getLsbD_not]
  by_cases hi : i < 32
  · cases mask.getLsbD i <;> simp [hi]
  · simp only [BitVec.getLsbD_of_ge _ _ (Nat.not_lt.mp hi)]
    simp

/-! ### Fields that keep what they hold -/

/-- A bit of a write behind a field whose encoding may stand for no value (R21, R137). -/
theorem getLsbD_keepField (bad : Nat → Bool) (lo len : Nat) (old new : Word) (i : Nat) :
    (keepField bad lo len old new).getLsbD i
      = if bad (fieldOf new lo len) = true ∧ lo ≤ i ∧ i < lo + len then old.getLsbD i else new.getLsbD i := by
  unfold keepField
  by_cases hi : i < 32
  · cases bad (fieldOf new lo len) <;> simp [getLsbD_mergeBits, getLsbD_maskOf hi]
  · simp only [BitVec.getLsbD_of_ge _ _ (Nat.not_lt.mp hi), ite_self]

/-- Bits that are not the field's are those written. -/
theorem getLsbD_keepField_outside (bad : Nat → Bool) {lo len i : Nat} (old new : Word)
    (h : i < lo ∨ lo + len ≤ i) : (keepField bad lo len old new).getLsbD i = new.getLsbD i := by
  rw [getLsbD_keepField, if_neg (by omega)]

/-- The field keeps what it held for a bad encoding and takes any other. -/
theorem fieldOf_keepField (bad : Nat → Bool) (lo len : Nat) (old new : Word) :
    fieldOf (keepField bad lo len old new) lo len
      = if bad (fieldOf new lo len) then fieldOf old lo len else fieldOf new lo len := by
  cases h : bad (fieldOf new lo len)
  · exact fieldOf_congr fun i _ _ => by rw [getLsbD_keepField]; simp [h]
  · exact fieldOf_congr fun i h1 h2 => by rw [getLsbD_keepField, if_pos ⟨h, h1, h2⟩]

/-- Another field of the same write takes its value. -/
theorem fieldOf_keepField_outside (bad : Nat → Bool) {lo len lo' len' : Nat} (old new : Word)
    (h : lo' + len' ≤ lo ∨ lo + len ≤ lo') :
    fieldOf (keepField bad lo len old new) lo' len' = fieldOf new lo' len' :=
  fieldOf_congr fun i h1 h2 => getLsbD_keepField_outside bad old new (by omega)

/-- A field all of whose bits are defined takes what is written. -/
theorem fieldOf_and_mask (x : Word) {m : Word} {lo len : Nat} (h : fieldOf m lo len = 2 ^ len - 1) :
    fieldOf (x &&& m) lo len = fieldOf x lo len :=
  fieldOf_congr fun i h1 h2 => by rw [BitVec.getLsbD_and, getLsbD_of_fieldOf_ones h h1 h2, Bool.and_true]

/-- Bits that are no field's stay 0 where a field keeps what it held (R5). -/
theorem keepField_and_eq_zero (bad : Nat → Bool) {lo len : Nat} (old : Word) {new z : Word} (hz : fieldOf z lo len = 0)
    (h : new &&& z = 0) : keepField bad lo len old new &&& z = 0 := by
  apply BitVec.eq_of_getLsbD_eq
  intro i _
  have written : (new &&& z).getLsbD i = (0 : Word).getLsbD i := by rw [h]
  rw [BitVec.getLsbD_and] at written ⊢
  rw [getLsbD_keepField]
  split
  next kept => simp [getLsbD_of_fieldOf_zero hz kept.2.1 kept.2.2]
  next => exact written

/-! ### TGCFG and TGARG (R137, R138) -/

/-- What each field of TGCFG holds after a write: EDGE 3 and OMODE 3 leave theirs (R137). -/
theorem trigCfgValue_fields (old new : Word) :
    fieldOf (trigCfgValue old new) 1 2 = (if fieldOf new 1 2 = 3 then fieldOf old 1 2 else fieldOf new 1 2)
      ∧ fieldOf (trigCfgValue old new) 5 2 = (if fieldOf new 5 2 = 3 then fieldOf old 5 2 else fieldOf new 5 2)
      ∧ fieldOf (trigCfgValue old new) 8 6 = fieldOf new 8 6
      ∧ ∀ i ∈ [0, 3, 4, 7], (trigCfgValue old new).getLsbD i = new.getLsbD i := by
  refine ⟨?_, ?_, ?_, ?_⟩
  · rw [trigCfgValue, fieldOf_keepField_outside _ _ _ (by decide), fieldOf_keepField,
      fieldOf_and_mask _ (by decide)]
    simp
  · rw [trigCfgValue, fieldOf_keepField, fieldOf_keepField_outside _ _ _ (by decide), fieldOf_and_mask _ (by decide)]
    simp
  · rw [trigCfgValue, fieldOf_keepField_outside _ _ _ (by decide), fieldOf_keepField_outside _ _ _ (by decide),
      fieldOf_and_mask _ (by decide)]
  · intro i hi
    have outside : (i < 1 ∨ 1 + 2 ≤ i) ∧ (i < 5 ∨ 5 + 2 ≤ i) ∧ (0x3FFF#32).getLsbD i = true := by
      revert i; decide
    rw [trigCfgValue, getLsbD_keepField_outside _ _ _ outside.2.1, getLsbD_keepField_outside _ _ _ outside.1,
      BitVec.getLsbD_and, outside.2.2, Bool.and_true]

/-- A change of TGCFG beside its fields, as one change of the line (R138). -/
theorem reconfigure_eq (old new : Trig) (h : Nat) :
    old.reconfigure new h =
      { new with
        pulse := if new.pulsing then new.pulse else 0
        pulseFresh := if new.pulsing then new.pulseFresh else false
        filter := if old.out = new.out then new.filter else Filter.empty
        flow :=
          if new.flowing then
            if old.flowing && old.route == new.route then new.flow else decide (h < new.offLevel)
          else false } := by
  have pulse : (if new.pulsing then new else { new with pulse := 0, pulseFresh := false })
      = { new with
          pulse := if new.pulsing then new.pulse else 0
          pulseFresh := if new.pulsing then new.pulseFresh else false } := by
    cases new.pulsing <;> rfl
  have filter (t : Trig) : (if old.out != new.out then { t with filter := Filter.empty } else t)
      = { t with filter := if old.out = new.out then t.filter else Filter.empty } := by
    by_cases same : old.out = new.out <;> simp [same]
  unfold Trig.reconfigure
  rw [pulse]
  extract_lets t u
  rw [show u = _ from filter t]
  cases new.flowing
  · rfl
  · cases old.flowing && old.route == new.route <;> rfl

/-- An output in PULSE mode. -/
theorem pulsing_iff (t : Trig) : t.pulsing = true ↔ t.out = true ∧ t.omode = 1 := by simp [Trig.pulsing]

/-- An output in FLOW mode. -/
theorem flowing_iff (t : Trig) : t.flowing = true ↔ t.out = true ∧ t.omode = 2 := by simp [Trig.flowing]

/-- The line as a TGCFG write leaves its stored word and its FLAG, ahead of the change of direction and mode. -/
def Trig.withCfg (g : Trig) (data : Word) : Trig :=
  { g with cfg := trigCfgValue g.cfg data, flag := g.flag && (!data.getLsbD 15 || g.flagNow) }

/-- A TGCFG write: the line, and the marks of a line that becomes an output. -/
theorem writeTrig_tgcfg (n : Fin 4) (data : Word) (s : State) :
    writeTrig n .tgcfg data s =
      (let g := s.trig n
       let new := g.withCfg data
       let s' := s.setTrig n (g.reconfigure new (held s new.route))
       if !g.out && new.out then clearLineMarks n s' else s') := rfl

theorem clearLineMarks_lane (n k : Fin 4) (s : State) :
    (clearLineMarks n s).lane k = { s.lane k with marks := (s.lane k).marks.set n.val none } :=
  getElem_mapVec _ _ _ _

/-- What a TGCFG write leaves of the state: its own line, the other lines, the marks, and nothing else. -/
theorem writeTrig_tgcfg_reads (n : Fin 4) (data : Word) (s : State) :
    let g := s.trig n
    let new := g.withCfg data
    let t := writeTrig n .tgcfg data s
    t.trig n = g.reconfigure new (held s new.route) ∧ (∀ m, m ≠ n → t.trig m = s.trig m)
      ∧ (∀ k, t.lane k =
          if g.out = false ∧ new.out = true then { s.lane k with marks := (s.lane k).marks.set n.val none }
          else s.lane k)
      ∧ t.ev = s.ev ∧ t.routes = s.routes ∧ t.buf = s.buf := by
  intro g new t
  have ht : t = if !g.out && new.out then clearLineMarks n (s.setTrig n (g.reconfigure new (held s new.route)))
      else s.setTrig n (g.reconfigure new (held s new.route)) := writeTrig_tgcfg n data s
  by_cases turned : g.out = false ∧ new.out = true
  · rw [if_pos (by simp [turned])] at ht
    rw [ht]
    exact ⟨trig_setTrig _ _ _, fun m hm => trig_setTrig_ne _ _ hm,
      fun k => (clearLineMarks_lane n k _).trans (if_pos turned).symm, rfl, rfl, rfl⟩
  · rw [if_neg (by simpa using turned)] at ht
    rw [ht]
    exact ⟨trig_setTrig _ _ _, fun m hm => trig_setTrig_ne _ _ hm, fun k => (if_neg turned).symm, rfl, rfl, rfl⟩

theorem writeTrig_tgarg (n : Fin 4) (data : Word) (s : State) :
    writeTrig n .tgarg data s
      = s.setTrig n
          { s.trig n with
            arg := data
            flow :=
              if (s.trig n).out = true ∧ (s.trig n).omode = 2 ∧ (s.trig n).arg ≠ data then
                decide (held s (Fin.ofNat 16 (fieldOf data 28 4)) < fieldOf data 14 14)
              else (s.trig n).flow } := by
  have changed : ((s.trig n).flowing && (s.trig n).arg != data) = true
      ↔ (s.trig n).out = true ∧ (s.trig n).omode = 2 ∧ (s.trig n).arg ≠ data := by
    simp [flowing_iff, and_assoc]
  unfold writeTrig
  dsimp only
  by_cases h : (s.trig n).out = true ∧ (s.trig n).omode = 2 ∧ (s.trig n).arg ≠ data
  · rw [if_pos h, if_pos (changed.mpr h)]
    rfl
  · rw [if_neg h, if_neg (mt changed.mp h)]

/-- The preset of TGCFG is the write of its register (R171). -/
theorem applyPair_tgcfg (n : Fin 4) (data : Word) (s : State) :
    applyPair (BitVec.ofNat 32 (0x200 + 16 * n.val), data) s = (writeTrig n .tgcfg data s, true) := by
  have target : presetTarget (BitVec.ofNat 32 (0x200 + 16 * n.val)) = some (.trig n .tgcfg) := by
    revert n; decide
  simp only [applyPair, target]
  rfl

theorem pulseEndAt_last {n : Fin 4} {s : State} (hout : (s.trig n).out = true) (hmode : (s.trig n).omode = 1)
    (hlast : (s.trig n).pulse = 1) (hfresh : (s.trig n).pulseFresh = false) :
    pulseEndAt n s = s.setTrig n { s.trig n with pulse := 0, driven := some (s.trig n).oval } := by
  have pulsing : (s.trig n).pulsing = true := (pulsing_iff _).mpr ⟨hout, hmode⟩
  have level : Trig.outLevel { s.trig n with pulse := 0 } = (s.trig n).oval := by
    unfold Trig.outLevel
    rw [show Trig.omode { s.trig n with pulse := 0 } = 1 from hmode]
    simp [Trig.oval]
  unfold pulseEndAt
  dsimp only
  rw [if_pos ⟨pulsing, hlast, hfresh⟩, level]

/-- The FLOW evaluation of one line (R143). -/
theorem flowEval_trig (r : Fin 16) (n : Fin 4) (s : State) :
    (flowEval r s).trig n =
      (let g := s.trig n
       if g.out = true ∧ g.omode = 2 ∧ g.route = r then
         { g with
           flow := if g.offLevel ≤ held s r then false else if held s r ≤ g.onLevel then true else g.flow }
       else g) := by
  have line : (flowEval r s).trig n
      = if (s.trig n).flowing && (s.trig n).route == r then (s.trig n).evalFlow (held s r) else s.trig n :=
    getElem_mapVec _ _ _ _
  have flows : ((s.trig n).flowing && (s.trig n).route == r) = true
      ↔ (s.trig n).out = true ∧ (s.trig n).omode = 2 ∧ (s.trig n).route = r := by
    simp [flowing_iff, and_assoc]
  rw [line]
  dsimp only
  by_cases h : (s.trig n).out = true ∧ (s.trig n).omode = 2 ∧ (s.trig n).route = r
  · rw [if_pos h, if_pos (flows.mpr h)]
    unfold Trig.evalFlow
    split
    · rfl
    · split <;> rfl
  · rw [if_neg h, if_neg (mt flows.mp h)]

/-- Settles O36: the fields of a TGCFG write are `trigCfgValue_fields`, what follows from them is `reconfigure_eq`, and
the evaluation of FLOW outputs is `flowEval_trig`. -/
theorem triggerConfigAndPulseEnd : Obligations.TriggerConfigAndPulseEnd := by
  refine ⟨fun n data s => ?line, fun r s => ⟨flowEval r s, rfl, rfl, fun n => flowEval_trig r n s⟩⟩
  intro g
  refine ⟨fun hload hbusy => ⟨?tgcfg, ?tgarg⟩, ?preset, fun hout hmode hlast hfresh => ?pulse⟩
  case tgarg =>
    have act : Acts (.tgcfgWrite n .tgarg data) s (hostWriteReg (.trig n .tgarg) data s) :=
      acts_inTurn (fun _ => rfl) s
    rwa [hostWriteReg_writable hload hbusy, writeReg, writeTrig_tgarg] at act
  case preset =>
    rw [applyPair_tgcfg, (writeTrig_tgcfg_reads n data s).1, reconfigure_eq]
    rfl
  case pulse =>
    have act : Acts (.pulseEnd n) s (pulseEndAt n s) := acts_inTurn (fun _ => rfl) s
    rwa [pulseEndAt_last hout hmode hlast hfresh] at act
  case tgcfg =>
    have act : Acts (.tgcfgWrite n .tgcfg data) s (hostWriteReg (.trig n .tgcfg) data s) :=
      acts_inTurn (fun _ => rfl) s
    rw [hostWriteReg_writable hload hbusy, writeReg] at act
    obtain ⟨line, others, lanes, ev, routes, buf⟩ := writeTrig_tgcfg_reads n data s
    obtain ⟨edge, omode, rest, bits⟩ := trigCfgValue_fields g.cfg data
    have dir : (g.withCfg data).out = data.getLsbD 0 := bits 0 (by decide)
    refine ⟨writeTrig n .tgcfg data s, act, ?_⟩
    rw [line, reconfigure_eq]
    refine ⟨rfl, rfl, edge, omode, bits 3 (by decide), bits 4 (by decide), bits 7 (by decide), rest, dir, rfl, rfl, rfl,
      ?pulse, ?flow, ?filter, ?lanes, others, ev, routes, buf⟩
    case pulse => exact if_congr (pulsing_iff _) rfl rfl
    case flow =>
      have same : (g.flowing && g.route == (g.withCfg data).route) = true ↔ g.out = true ∧ g.omode = 2 := by
        rw [show (g.withCfg data).route = g.route from rfl]
        simp [flowing_iff]
      exact if_congr (flowing_iff _) (if_congr same rfl rfl) rfl
    case filter => exact if_congr (by rw [dir]) rfl rfl
    case lanes =>
      intro k
      rw [lanes k, dir]

end Sys2Proof.Machine
end

section
/-! SUPPORT. Lane configuration words (R19 to R23, R26): the statement O24. -/

namespace Sys2Proof.Machine

/-! ### The values of lane configuration words (R19 to R21) -/

/-- POLMODE and DWELL keep what they hold for an encoding that stands for no value; EDGE, ORDER, SOURCE and DEFACT take
what is written, and bits that are no field's hold 0. -/
theorem laneRegValue_lctl (old new : Word) :
    fieldOf (laneRegValue .lctl old new) 4 2 = (if fieldOf new 4 2 = 3 then fieldOf old 4 2 else fieldOf new 4 2)
      ∧ fieldOf (laneRegValue .lctl old new) 8 8 = (if fieldOf new 8 8 = 0 then fieldOf old 8 8 else fieldOf new 8 8)
      ∧ (∀ k ∈ [1, 2, 3, 6], (laneRegValue .lctl old new).getLsbD k = new.getLsbD k)
      ∧ laneRegValue .lctl old new &&& 0xFFFF0081 = 0 := by
  refine ⟨?polmode, ?dwell, fun k hk => ?plain, ?undefined⟩
  case polmode =>
    rw [laneRegValue, fieldOf_keepField_outside _ _ _ (by decide), fieldOf_keepField, fieldOf_and_mask _ (by decide)]
    simp
  case dwell =>
    rw [laneRegValue, fieldOf_keepField, fieldOf_keepField_outside _ _ _ (by decide), fieldOf_and_mask _ (by decide)]
    simp
  case plain =>
    have outside : (k < 4 ∨ 4 + 2 ≤ k) ∧ (k < 8 ∨ 8 + 8 ≤ k) ∧ (0x0000FF7E#32).getLsbD k = true := by
      revert k; decide
    rw [laneRegValue, getLsbD_keepField_outside _ _ _ outside.2.1, getLsbD_keepField_outside _ _ _ outside.1,
      BitVec.getLsbD_and, outside.2.2, Bool.and_true]
  case undefined =>
    refine keepField_and_eq_zero _ _ (by decide) (keepField_and_eq_zero _ _ (by decide) ?_)
    rw [BitVec.and_assoc]
    exact BitVec.and_zero

/-- FCS, VERIFY and COAST keep what they hold for such an encoding; the other fields take what is written. -/
theorem laneRegValue_lfmt (old new : Word) :
    fieldOf (laneRegValue .lfmt old new) 5 2 = (if fieldOf new 5 2 = 3 then fieldOf old 5 2 else fieldOf new 5 2)
      ∧ fieldOf (laneRegValue .lfmt old new) 8 3 = (if fieldOf new 8 3 = 0 then fieldOf old 8 3 else fieldOf new 8 3)
      ∧ fieldOf (laneRegValue .lfmt old new) 12 3
        = (if fieldOf new 12 3 = 0 then fieldOf old 12 3 else fieldOf new 12 3)
      ∧ (∀ f ∈ [(0, 2), (2, 2), (4, 1), (16, 13)],
          fieldOf (laneRegValue .lfmt old new) f.1 f.2 = fieldOf new f.1 f.2)
      ∧ laneRegValue .lfmt old new &&& 0xE0008880 = 0 := by
  refine ⟨?fcs, ?verify, ?coast, fun f hf => ?plain, ?undefined⟩
  case fcs =>
    rw [laneRegValue, fieldOf_keepField_outside _ _ _ (by decide), fieldOf_keepField_outside _ _ _ (by decide),
      fieldOf_keepField, fieldOf_and_mask _ (by decide)]
    simp
  case verify =>
    rw [laneRegValue, fieldOf_keepField_outside _ _ _ (by decide), fieldOf_keepField,
      fieldOf_keepField_outside _ _ _ (by decide), fieldOf_and_mask _ (by decide)]
    simp
  case coast =>
    rw [laneRegValue, fieldOf_keepField, fieldOf_keepField_outside _ _ _ (by decide),
      fieldOf_keepField_outside _ _ _ (by decide), fieldOf_and_mask _ (by decide)]
    simp
  case plain =>
    have outside : (f.1 + f.2 ≤ 12 ∨ 12 + 3 ≤ f.1) ∧ (f.1 + f.2 ≤ 8 ∨ 8 + 3 ≤ f.1)
        ∧ (f.1 + f.2 ≤ 5 ∨ 5 + 2 ≤ f.1) ∧ fieldOf 0x1FFF777F#32 f.1 f.2 = 2 ^ f.2 - 1 := by
      revert f; decide
    obtain ⟨coast, verify, fcs, defined⟩ := outside
    rw [laneRegValue, fieldOf_keepField_outside _ _ _ coast, fieldOf_keepField_outside _ _ _ verify,
      fieldOf_keepField_outside _ _ _ fcs, fieldOf_and_mask _ defined]
  case undefined =>
    refine keepField_and_eq_zero _ _ (by decide)
      (keepField_and_eq_zero _ _ (by decide) (keepField_and_eq_zero _ _ (by decide) ?_))
    rw [BitVec.and_assoc]
    exact BitVec.and_zero

/-- SEQWIDTH and LENWIDTH keep what they hold for such an encoding; the other fields take what is written. -/
theorem laneRegValue_lhdr (old new : Word) :
    fieldOf (laneRegValue .lhdr old new) 8 2 = (if fieldOf new 8 2 = 3 then fieldOf old 8 2 else fieldOf new 8 2)
      ∧ fieldOf (laneRegValue .lhdr old new) 16 2
        = (if fieldOf new 16 2 = 3 then fieldOf old 16 2 else fieldOf new 16 2)
      ∧ (∀ f ∈ [(0, 4), (4, 4), (12, 4), (20, 5), (28, 4)],
          fieldOf (laneRegValue .lhdr old new) f.1 f.2 = fieldOf new f.1 f.2)
      ∧ laneRegValue .lhdr old new &&& 0x0E0C0C00 = 0 := by
  refine ⟨?seqwidth, ?lenwidth, fun f hf => ?plain, ?undefined⟩
  case seqwidth =>
    rw [laneRegValue, fieldOf_keepField_outside _ _ _ (by decide), fieldOf_keepField, fieldOf_and_mask _ (by decide)]
    simp
  case lenwidth =>
    rw [laneRegValue, fieldOf_keepField, fieldOf_keepField_outside _ _ _ (by decide), fieldOf_and_mask _ (by decide)]
    simp
  case plain =>
    have outside : (f.1 + f.2 ≤ 16 ∨ 16 + 2 ≤ f.1) ∧ (f.1 + f.2 ≤ 8 ∨ 8 + 2 ≤ f.1)
        ∧ fieldOf 0xF1F3F3FF#32 f.1 f.2 = 2 ^ f.2 - 1 := by
      revert f; decide
    obtain ⟨lenwidth, seqwidth, defined⟩ := outside
    rw [laneRegValue, fieldOf_keepField_outside _ _ _ lenwidth, fieldOf_keepField_outside _ _ _ seqwidth,
      fieldOf_and_mask _ defined]
  case undefined =>
    refine keepField_and_eq_zero _ _ (by decide) (keepField_and_eq_zero _ _ (by decide) ?_)
    rw [BitVec.and_assoc]
    exact BitVec.and_zero

/-! ### Writes of lane configuration words (R22, R23, R26) -/

/-- LSYNC, LFMT and LHDR are written while the lane is OFF. -/
theorem writeLaneReg_off {n : Fin 4} {reg : LaneReg} {s : State} (hreg : reg ≠ .lctl) (hoff : (s.lane n).st = .off)
    (data : Word) (report : Bool) :
    writeLaneReg n reg data report s
      = (s.setLane n ((s.lane n).withReg reg (laneRegValue reg ((s.lane n).reg reg) data)), true) := by
  cases reg with
  | lctl => exact absurd rfl hreg
  | _ => exact if_pos hoff

/-- LSYNC, LFMT and LHDR are refused in any other state. -/
theorem writeLaneReg_on {n : Fin 4} {reg : LaneReg} {s : State} (hreg : reg ≠ .lctl) (hon : (s.lane n).st ≠ .off)
    (data : Word) (report : Bool) :
    writeLaneReg n reg data report s
      = (refuseWrite report (srcIdx n) (regOffset (.lane n reg)) data s, false) := by
  cases reg with
  | lctl => exact absurd rfl hreg
  | _ => exact if_neg hon

/-- An LCTL write with ENABLE = 0 of an OFF lane sets its fields. -/
theorem writeLctl_off {n : Fin 4} {s : State} {data : Word} (hoff : (s.lane n).st = .off)
    (hdis : data.getLsbD 0 = false) (report : Bool) :
    (writeLaneReg n .lctl data report s).1
      = s.setLane n { s.lane n with lctl := laneRegValue .lctl (s.lane n).lctl data } := by
  unfold writeLaneReg
  dsimp only
  rw [if_pos hoff, hdis]
  rfl

/-- An LCTL write that would change a field of an enabled lane is told, and ENABLE = 0 disables the lane. -/
theorem writeLctl_on {n : Fin 4} {s : State} (hon : (s.lane n).st ≠ .off) (data : Word) :
    (writeLaneReg n .lctl data true s).1 =
      (let told : State :=
        { s with
          ev :=
            if laneRegValue .lctl (s.lane n).lctl data = (s.lane n).lctl then s.ev
            else (post 0x91 (srcIdx n) (BitVec.ofNat 32 (regOffset (.lane n .lctl))) data s).ev }
       if data.getLsbD 0 then told else disableLane n told) := by
  have told : (if laneRegValue .lctl (s.lane n).lctl data == (s.lane n).lctl then s
        else refuseWrite true (srcIdx n) (laneRegOffset n .lctl) data s)
      = { s with
          ev :=
            if laneRegValue .lctl (s.lane n).lctl data = (s.lane n).lctl then s.ev
            else (post 0x91 (srcIdx n) (BitVec.ofNat 32 (regOffset (.lane n .lctl))) data s).ev } := by
    by_cases same : laneRegValue .lctl (s.lane n).lctl data = (s.lane n).lctl
    · rw [if_pos same, if_pos (beq_iff_eq.mpr same)]
    · rw [if_neg same, if_neg (mt beq_iff_eq.mp same)]
      rfl
  unfold writeLaneReg
  dsimp only
  rw [if_neg hon]
  exact congrArg (fun u => if data.getLsbD 0 then u else disableLane n u) told

/-- Counting an abandoned frame leaves the lane's configuration. -/
theorem countAbandoned_reg (l : Lane) (reg : LaneReg) : l.countAbandoned.reg reg = l.reg reg := by
  unfold Lane.countAbandoned
  split
  · rfl
  · split
    · rfl
    · cases reg <;> rfl
    · split <;> cases reg <;> rfl

/-- What a disabled lane reads, and what disabling it leaves alone (R26). -/
theorem disableLane_reads (n : Fin 4) (s : State) :
    let t := disableLane n s
    (t.lane n).st = .off ∧ (t.lane n).frame = none ∧ (∀ reg, (t.lane n).reg reg = (s.lane n).reg reg)
      ∧ (∀ m, m ≠ n → t.lane m = s.lane m) ∧ t.routes = s.routes ∧ t.buf.mem = s.buf.mem
      ∧ ((s.lane n).frame = none → t.ev = s.ev) := by
  obtain ⟨sh, ev, trigs, h, hev⟩ := abandon_frame n s
  have lanes (m : Fin 4) : (abandon n s).lane m
      = (s.setLane n { (s.lane n).countAbandoned with asm := none, frame := none }).lane m := by rw [h]; rfl
  intro t
  have own : t.lane n = _ := lane_modLane (abandon n s) n _
  rw [lanes, lane_setLane] at own
  refine ⟨by rw [own], by rw [own]; rfl, fun reg => ?_, fun m hm => ?_, ?_, ?_, fun hnone => ?_⟩
  · rw [own]
    exact Eq.trans (by cases reg <;> rfl) (countAbandoned_reg (s.lane n) reg)
  · exact (lane_modLane_ne _ _ hm).trans ((lanes m).trans (lane_setLane_ne _ _ hm))
  · change (abandon n s).routes = _
    rw [h]
    rfl
  · change (abandon n s).buf.mem = _
    rw [h]
  · change (abandon n s).ev = _
    rw [h]
    exact hev (.inr fun t => by simp [hnone])

/-- Settles O24: the writes by the state of the lane (`writeLaneReg_off`, `writeLaneReg_on`, `writeLctl_off`,
`writeLctl_on`), the values by the fields of each word. -/
theorem laneConfigurationWrites : Obligations.LaneConfigurationWrites := by
  have row (n : Fin 4) (reg : LaneReg) (data : Word) (s : State) (hload : s.ctl.loading = false)
      (hbusy : s.ctl.resetBusy = false) : Acts (.laneConfigWrite n reg data) s (writeLaneReg n reg data true s).1 := by
    have act : Acts (.laneConfigWrite n reg data) s (hostWriteReg (.lane n reg) data s) :=
      acts_inTurn (fun _ => rfl) s
    rwa [hostWriteReg_writable hload hbusy] at act
  refine ⟨fun n reg data s hreg hload hbusy => ?guarded, fun n data s hload hbusy => ?lctl, fun old new => ?values⟩
  case guarded =>
    have act := row n reg data s hload hbusy
    constructor
    · intro hoff
      rwa [writeLaneReg_off hreg hoff] at act
    · intro hon
      rwa [writeLaneReg_on hreg hon] at act
  case lctl =>
    have act := row n .lctl data s hload hbusy
    intro l value told
    refine ⟨fun hoff hdis => ?off, fun hon hen => ?enabled, fun hon hdis => ?disable⟩
    case off => rwa [writeLctl_off hoff hdis] at act
    case enabled =>
      rw [writeLctl_on hon, hen] at act
      exact act
    case disable =>
      rw [writeLctl_on hon, hdis] at act
      exact ⟨_, act, disableLane_reads n { s with ev := told }⟩
  case values =>
    obtain ⟨polmode, dwell, lctl, lctlZero⟩ := laneRegValue_lctl old new
    obtain ⟨fcs, verify, coast, lfmt, lfmtZero⟩ := laneRegValue_lfmt old new
    obtain ⟨seqwidth, lenwidth, lhdr, lhdrZero⟩ := laneRegValue_lhdr old new
    exact ⟨polmode, dwell, fcs, verify, coast, seqwidth, lenwidth, lctl, lfmt, lhdr, lctlZero, lfmtZero, lhdrZero, rfl⟩

end Sys2Proof.Machine
end

section
/-! SUPPORT. What reads of the register window return and what plain writes do (R5 to R12): the statement O23. -/

namespace Sys2Proof.Machine

/-! ### What writes and reads change (R5, R6, R7, R9) -/

/-- A write of a read-only register does nothing (R6). -/
theorem writeReg_readOnly {r : Reg} (h : isReadOnly r = true) (report : Bool) (data : Word) (s : State) :
    (writeReg report data s r).1 = s := by
  cases r with
  | devctl | epochLo | epochHi | tbctl | intstat | inten | cmpmod | cmdarg0 | cmdarg1 | cmdissue | snappage | evpop
  | lane | linjc | linj | trig | window | bshed | breserve | bstat | crbase | crcfg | crcons | route | rpost | rcsel =>
    cases h
  | _ => rfl

/-- The low bits of a word, written to a register of that many bits and read back. -/
theorem setWidth_extractLsb'_low (x : Word) (len : Nat) :
    (x.extractLsb' 0 len).setWidth 32 = x &&& BitVec.ofNat 32 (2 ^ len - 1) := by
  apply BitVec.eq_of_getLsbD_eq
  intro i hi
  rw [BitVec.getLsbD_setWidth, BitVec.getLsbD_extractLsb', BitVec.getLsbD_and, BitVec.getLsbD_ofNat,
    Nat.testBit_two_pow_sub_one, Nat.zero_add]
  simp [hi, Bool.and_comm]

/-- A bit of a single bit put at its place. -/
theorem getLsbD_ofNat_bit (b : Bool) (lo : Nat) {i : Nat} (hi : i < 32) :
    (BitVec.ofNat 32 (bit b * 2 ^ lo)).getLsbD i = (b && decide (lo = i)) := by
  rw [BitVec.getLsbD_ofNat]
  cases b
  · simp [bit]
  · simp only [bit, if_true, Nat.one_mul, Nat.testBit_two_pow, hi, decide_true, Bool.true_and]

/-- The three fields of TBCTL are the low bits of the word written. -/
theorem packWord_low_bits (data : Word) :
    packWord [(bit (data.getLsbD 0), 0), (bit (data.getLsbD 1), 1), (bit (data.getLsbD 2), 2)] = data &&& 0x7#32 := by
  apply BitVec.eq_of_getLsbD_eq
  intro i hi
  have mask : (0x7#32).getLsbD i = decide (i < 3) :=
    (BitVec.getLsbD_ofNat ..).trans (by rw [show 7 = 2 ^ 3 - 1 from rfl, Nat.testBit_two_pow_sub_one]; simp [hi])
  simp only [packWord, BitVec.getLsbD_or, getLsbD_ofNat_bit _ _ hi, BitVec.getLsbD_and, mask]
  match i with
  | 0 | 1 | 2 => simp
  | k + 3 => simp

/-- A plain RW register reads back the defined bits of what was written (R5, R6). -/
theorem readReg_writeReg_plain {r : Reg} {mask : Word} (h : plainMask r = some mask) (data : Word) (s : State) :
    readReg (writeReg true data s r).1 r = data &&& mask := by
  cases r with
  | epochLo | epochHi | cmdarg0 | cmdarg1 =>
    cases h
    exact BitVec.and_allOnes.symm
  | tbctl => cases h; exact packWord_low_bits data
  | inten | breserve => cases h; exact setWidth_extractLsb'_low data _
  | snappage =>
    cases h
    refine Eq.trans ?_ BitVec.and_one_eq_setWidth_ofBool_getLsbD.symm
    change BitVec.ofNat 32 (bit (data.getLsbD 0)) = _
    cases data.getLsbD 0 <;> rfl
  | bshed =>
    cases h
    obtain ⟨sh, ev, tested, -⟩ := shedTest_frame { s with buf := { s.buf with bshed := data.extractLsb' 0 14 } }
    change (shedTest true _).buf.bshed.setWidth 32 = _
    rw [tested]
    exact setWidth_extractLsb'_low data 14
  | rcsel r =>
    cases h
    change ((s.modRoute r _).route r).rcsel.setWidth 32 = _
    rw [route_modRoute]
    exact setWidth_extractLsb'_low data 4
  | _ => cases h

/-- A read of any word but the LO word of a latched pair changes nothing but the answer (R7, R9). -/
theorem hostRead_plain {o : Nat} (h : ∀ pair, regAt o ≠ some (latchedLo pair)) (s : State) :
    hostRead o s = { s with hostData := readWord s o } := by
  unfold hostRead
  split
  next hr => exact absurd hr (h .ref)
  next hr => exact absurd hr (h .syncCap)
  next n hr => exact absurd hr (h (.tgTime n))
  next => rfl

/-- A read of the LO word of a latched pair copies the HI half to the pair's shadow (R9). -/
theorem acts_latchedLoRead (pair : LatchedPair) (s : State) :
    Acts (.latchedLoRead pair) s (hostRead (regOffset (latchedLo pair)) s) := acts_inTurn (fun _ => rfl) s

/-! ### Interrupt status and identity (R152, R153) -/

/-- Some line has both FLAG and IE. -/
theorem trigPending_eq (s : State) :
    trigPending s = decide (∃ n, (s.trig n).flag = true ∧ (s.trig n).ie = true) := by
  rw [Bool.eq_iff_iff, decide_eq_true_eq, trigPending, List.any_eq_true]
  simp only [Vector.mem_toList_iff, Vector.mem_iff_getElem, Bool.and_eq_true]
  constructor
  · rintro ⟨_, ⟨i, hi, rfl⟩, h⟩
    exact ⟨⟨i, hi⟩, h⟩
  · rintro ⟨n, h⟩
    exact ⟨_, ⟨n.val, n.isLt, rfl⟩, h⟩

/-- The five sources of INTSTAT by number (R152). -/
def intSource (s : State) (k : Nat) : Bool :=
  [!s.ev.queue.isEmpty, s.irq.compl, decide (∃ n, (s.trig n).flag = true ∧ (s.trig n).ie = true), s.irq.tick,
    s.irq.sync].getD k false

/-- Five bits put at their places read back one by one. -/
theorem getLsbD_fiveBits : ∀ (a b c d e : Bool) (k : Fin 5),
    (BitVec.ofNat 5 (bit a + 2 * bit b + 4 * bit c + 8 * bit d + 16 * bit e)).getLsbD k.val
      = [a, b, c, d, e].getD k.val false := by decide

theorem getLsbD_intStat (s : State) (k : Nat) : (intStat s).getLsbD k = intSource s k := by
  by_cases hk : k < 5
  · rw [intStat, trigPending_eq]
    exact getLsbD_fiveBits _ _ _ _ _ ⟨k, hk⟩
  · rw [BitVec.getLsbD_of_ge _ _ (Nat.not_lt.mp hk)]
    exact (List.getD_eq_default _ _ (Nat.not_lt.mp hk)).symm

/-- INTIDENT is found by a search for the lowest active source. -/
theorem intIdent_eq (s : State) :
    intIdent s = ((List.range 5).find? (fun k => (intActive s).getLsbD k)).elim 0 (· + 1) := by
  rw [show List.range 5 = [0, 1, 2, 3, 4] from rfl]
  unfold intIdent
  simp only [List.find?]
  cases (intActive s).getLsbD 0
  · cases (intActive s).getLsbD 1
    · cases (intActive s).getLsbD 2
      · cases (intActive s).getLsbD 3
        · cases (intActive s).getLsbD 4 <;> rfl
        · rfl
      · rfl
    · rfl
  · rfl

theorem getLsbD_intActive (s : State) (k : Nat) :
    (intActive s).getLsbD k = (intSource s k && s.irq.inten.getLsbD k) := by
  rw [intActive, BitVec.getLsbD_and, getLsbD_intStat]

theorem intIdent_lt (s : State) : intIdent s < 6 := by
  unfold intIdent
  split_ifs <;> decide

/-- INTIDENT is 1 plus the number of the lowest pending enabled source (R153). -/
theorem intIdent_eq_succ_iff (s : State) {k : Nat} (hk : k < 5) :
    intIdent s = k + 1 ↔ (intActive s).getLsbD k = true ∧ ∀ j, j < k → (intActive s).getLsbD j = false := by
  rw [intIdent_eq]
  have found : ((List.range 5).find? (fun k => (intActive s).getLsbD k)).elim 0 (· + 1) = k + 1
      ↔ (List.range 5).find? (fun k => (intActive s).getLsbD k) = some k := by
    cases (List.range 5).find? _ <;> simp
  rw [found, List.find?_range_eq_some]
  simp [hk]

/-- INTIDENT is 0 when no source is pending and enabled (R153). -/
theorem intIdent_eq_zero_iff (s : State) :
    intIdent s = 0 ↔ ∀ k, k < 5 → (intActive s).getLsbD k = false := by
  rw [intIdent_eq]
  have missed : ((List.range 5).find? (fun k => (intActive s).getLsbD k)).elim 0 (· + 1) = 0
      ↔ (List.range 5).find? (fun k => (intActive s).getLsbD k) = none := by
    cases (List.range 5).find? _ <;> simp
  rw [missed, List.find?_range_eq_none]
  simp

/-- INTIDENT as a word. -/
theorem ofNat_intIdent_eq_iff (s : State) {k : Nat} (hk : k < 6) :
    BitVec.ofNat 32 (intIdent s) = BitVec.ofNat 32 k ↔ intIdent s = k := by
  have := intIdent_lt s
  rw [← BitVec.toNat_inj, BitVec.toNat_ofNat, BitVec.toNat_ofNat, Nat.mod_eq_of_lt (by omega),
    Nat.mod_eq_of_lt (by omega)]

/-! ### The words of the window (R12, R18, R55, R86, R91, R106, R125, R156, R158, R165, R168) -/

/-- The words of a lane's block. -/
theorem readWord_lane (s : State) (n : Fin 4) :
    let l := s.lane n
    let at_ := 0x100 + 64 * n.val
    readWord s (at_ + 0x10)
        = packWord
            [((match l.st with
                | .off => 0 | .noclock => 1 | .search => 2 | .verify => 3 | .locked => 4 | .coast => 5), 0),
              (bit l.pol, 4), (l.fifo.length, 8), (l.lastChk.toNat, 16)]
      ∧ readWord s at_ = l.lctl ||| (if l.st = .off then 0 else 1) ∧ readWord s (at_ + 0x14) = l.lrate
      ∧ (readWord s (at_ + 0x18)).toNat = l.linjc.toNat
      ∧ ∀ k : Fin 8, readWord s (at_ + 0x20 + 4 * k.val) = l.ctr[k.val] := by
  intro l at_
  refine ⟨?lstat, ?lctl, ?lrate, ?linjc, fun k => ?ctr⟩
  case lstat =>
    rw [readWord_offset (r := .lstat n) (by simp only [regOffset]; omega)]
    change packWord [(laneCode l.st, 0), _, _, _] = _
    cases l.st <;> rfl
  case lctl =>
    rw [readWord_offset (o := at_) (r := .lane n .lctl) rfl]
    change l.lctl ||| BitVec.ofNat 32 (bit (l.st != .off)) = _
    cases l.st <;> rfl
  case lrate => exact readWord_offset (r := .lrate n) (by simp only [regOffset]; omega) s
  case linjc =>
    rw [readWord_offset (r := .linjc n) (by simp only [regOffset]; omega)]
    exact BitVec.toNat_setWidth_of_le (by decide)
  case ctr => exact readWord_offset (r := .laneCtr n k) (by simp only [regOffset]; omega) s

/-- The words of a route's block about its state. -/
theorem readWord_route (s : State) (r : Fin 16) :
    let x := s.route r
    let at_ := 0x400 + 64 * r.val
    readWord s (at_ + 0x28)
        = packWord [(routeCode x.st, 0), (routeCode x.hfrom, 4), (faultCode x.fault, 8), (x.fidx, 16)]
      ∧ readWord s (at_ + 0x2C) = packWord [(x.queue.length, 0), (held s r, 16)]
      ∧ (∀ k : Fin 12, x.rcsel.toNat = k.val → readWord s (at_ + 0x34) = x.ctr[k.val])
      ∧ (12 ≤ x.rcsel.toNat → readWord s (at_ + 0x34) = 0)
      ∧ readWord s (at_ + 0x38) = x.serial ∧ readWord s (at_ + 0x3C) = BitVec.ofNat 32 x.rbcnt
      ∧ readWord s (at_ + 0x1C) = BitVec.ofNat 32 x.rpost.toNat
      ∧ readWord s (at_ + 0x20) = BitVec.ofNat 32 x.rdone.toNat
      ∧ readWord s (at_ + 0x24) = BitVec.ofNat 32 x.rfetch.toNat := by
  intro x at_
  have word (w : Reg) {o : Nat} (h : regOffset w = at_ + o) : readWord s (at_ + o) = readReg s w := readWord_offset h s
  have rcval : readWord s (at_ + 0x34) = if h : x.rcsel.toNat < 12 then x.ctr[x.rcsel.toNat] else 0 :=
    word (.rcval r) (by simp only [regOffset]; omega)
  refine ⟨word (.rstat0 r) ?_, word (.rstat1 r) ?_, fun k hk => ?counter, fun hk => ?none, word (.rserial r) ?_,
    word (.rbcnt r) ?_, ?rpost, ?rdone, ?rfetch⟩
  case counter =>
    rw [rcval, dif_pos (hk ▸ k.isLt)]
    simp only [hk]
  case none => rw [rcval, dif_neg (Nat.not_lt.mpr hk)]
  case rpost =>
    rw [BitVec.ofNat_toNat]
    exact word (.rpost r) (by simp only [regOffset]; omega)
  case rdone =>
    rw [BitVec.ofNat_toNat]
    exact word (.rdone r) (by simp only [regOffset]; omega)
  case rfetch =>
    rw [BitVec.ofNat_toNat]
    exact word (.rfetch r) (by simp only [regOffset]; omega)
  all_goals simp only [regOffset]; omega

/-- The snapshot area on its first page: the lanes (R165). -/
theorem readWord_snapLane (s : State) (n : Fin 4) (k : Fin 8) :
    readWord s (0xC00 + 32 * n.val + 4 * k.val) = if s.cmd.snapPage then 0 else s.cmd.snapLanes[n.val][k.val] := by
  have lane : (8 * n.val + k.val) / 8 % 4 = n.val := by omega
  have counter : (8 * n.val + k.val) % 8 = k.val := by omega
  rw [readWord_offset (r := .snap ⟨8 * n.val + k.val, by omega⟩) (by simp only [regOffset]; omega)]
  change snapWord s.cmd _ = _
  unfold snapWord
  rw [if_pos (show 8 * n.val + k.val < 32 by omega)]
  simp only [lane, counter]

/-- The snapshot area of a route, on the page that presents it (R165). -/
theorem readWord_snapRoute {s : State} {r : Fin 16} (hpage : s.cmd.snapPage = true ↔ 8 ≤ r.val) (k : Fin 12) :
    readWord s (0xC80 + 48 * (r.val % 8) + 4 * k.val) = s.cmd.snapRoutes[r.val][k.val] := by
  have page : (if s.cmd.snapPage then 8 else 0) = r.val / 8 * 8 := by
    cases h : s.cmd.snapPage
    · have : ¬8 ≤ r.val := fun h8 => by simp [h] at hpage; omega
      simp; omega
    · have : 8 ≤ r.val := hpage.mp h
      simp; omega
  have route : ((32 + 12 * (r.val % 8) + k.val - 32) / 12 + r.val / 8 * 8) % 16 = r.val := by omega
  have counter : (32 + 12 * (r.val % 8) + k.val - 32) % 12 = k.val := by omega
  rw [readWord_offset (r := .snap ⟨32 + 12 * (r.val % 8) + k.val, by omega⟩) (by simp only [regOffset]; omega)]
  change snapWord s.cmd _ = _
  unfold snapWord
  rw [if_neg (show ¬32 + 12 * (r.val % 8) + k.val < 32 by omega)]
  simp only [page, route, counter]

/-- A write of LINJC holds the count if it is 1 to 4 (R21, R31). -/
theorem writeLinjc_eq (n : Fin 4) (data : Word) (s : State) :
    writeLinjc n data s
      = if 1 ≤ data.toNat % 8 ∧ data.toNat % 8 ≤ 4 then
          s.setLane n { s.lane n with linjc := BitVec.ofNat 3 (data.toNat % 8) }
        else s := by
  have count : fieldOf data 0 3 = data.toNat % 8 := by simp [fieldOf]
  unfold writeLinjc
  rw [count]
  rfl

/-- The LO word of a line's time, read with its shadow (R9). -/
theorem hostRead_tgtimeLo (n : Fin 4) (s : State) :
    hostRead (regOffset (.tgtimeLo n)) s =
      { s with
        hostData := loWord (s.trig n).time
        trigs := s.trigs.set n.val { s.trig n with shadow := hiWord (s.trig n).time } } := by
  unfold hostRead
  rw [regAt_regOffset, readWord_offset rfl]
  rfl

/-- Settles O23: an access by the register at its offset, a read of a word of the window by `readWord_offset`. -/
theorem registerReadsAndWrites : Obligations.RegisterReadsAndWrites := by
  refine ⟨fun o data s haligned => ?access, fun s => ?latched, fun s => ?words⟩
  case access =>
    have write (r : Reg) (hr : regAt o.toNat = some r) : Acts (.registerWrite o data) s (hostWriteReg r data s) :=
      acts_registerWrite (regOffset_of_regAt hr) data s
    refine ⟨fun hnone => ?none, fun r hr hro => ?readOnly, fun r mask hr hmask hload hbusy => ?plain, fun hpair => ?read⟩
    case none =>
      have act : Acts (.registerWrite o data) s (access o true (firstEnables o) false data s) :=
        acts_inTurn (fun _ => rfl) s
      have whole : firstEnables o = 0xF#4 := by simp [firstEnables, haligned]
      rwa [whole, access_whole haligned, if_pos rfl, hostWrite, hnone] at act
    case readOnly =>
      have act := write r hr
      rwa [hostWriteReg, writeReg_readOnly hro, ite_self] at act
    case plain =>
      have act := write r hr
      rw [hostWriteReg_writable hload hbusy] at act
      exact ⟨_, act, (readWord_offset (regOffset_of_regAt hr) _).trans (readReg_writeReg_plain hmask data s)⟩
    case read =>
      have act : Acts (.accessError o false 0xF false data) s (access o false 0xF#4 false data s) :=
        acts_inTurn (fun _ => rfl) s
      rwa [access_whole haligned, if_neg Bool.false_ne_true, hostRead_plain hpair] at act
  case latched =>
    exact ⟨acts_latchedLoRead .ref s, acts_latchedLoRead .syncCap s,
      fun n => hostRead_tgtimeLo n s ▸ acts_latchedLoRead (.tgTime n) s, rfl, rfl, fun _ => rfl⟩
  case words =>
    intro source active
    have pending (k : Nat) : (intActive s).getLsbD k = active k := getLsbD_intActive s k
    refine ⟨fun k => ?intstat, fun k hk => ?intident, ?noIdent, fun e rest hev => ?event, fun hev k => ?noEvent, rfl,
      ?devstat, readWord_lane s, ⟨rfl, rfl⟩, ⟨rfl, ?crcons, rfl⟩, fun r => ?route, fun i => ?entry, fun hfifo => ?noCommand,
      fun c rest hfifo => ?command, rfl, ⟨rfl, rfl⟩, readWord_snapLane s, fun r k hpage => readWord_snapRoute hpage k,
      fun hload hbusy => ⟨fun n data => ?linjc, fun data hkeep => ?intstatWrite⟩⟩
    case intstat =>
      change ((intStat s).setWidth 32).getLsbD k = intSource s k
      rw [← getLsbD_intStat, BitVec.getLsbD_setWidth]
      by_cases hk : k < 32
      · simp only [hk, decide_true, Bool.true_and]
      · simp [hk, BitVec.getLsbD_of_ge (intStat s) k (by omega)]
    case intident =>
      change BitVec.ofNat 32 (intIdent s) = _ ↔ _
      rw [ofNat_intIdent_eq_iff s (by omega), intIdent_eq_succ_iff s hk]
      simp only [pending]
    case noIdent =>
      change BitVec.ofNat 32 (intIdent s) = BitVec.ofNat 32 0 ↔ _
      rw [ofNat_intIdent_eq_iff s (by decide), intIdent_eq_zero_iff]
      simp only [pending]
    case event => simp [readReg, hev, Event.word0]
    case noEvent => simp [readReg, hev]
    case devstat =>
      have backlog : (!s.eng.backlog.isEmpty) = decide (s.eng.backlog ≠ []) := by
        cases s.eng.backlog <;> rfl
      change devStat s = _
      rw [devStat, backlog]
    case crcons =>
      rw [BitVec.ofNat_toNat]
      rfl
    case route =>
      intro x at_ code why
      have state (st : RouteState) : routeCode st = code st := by cases st <;> rfl
      have fault : faultCode x.fault = why := by
        cases h : x.fault with
        | none => simp only [why, h, faultCode]
        | some f => cases f <;> simp only [why, h, faultCode]
      rw [← state, ← state, ← fault]
      exact readWord_route s r
    case entry =>
      exact ⟨readWord_offset (r := .matchA i) rfl s, readWord_offset (r := .matchB i) rfl s,
        readWord_offset (r := .hits i) rfl s⟩
    case noCommand =>
      rw [readWord_offset (o := 0x08C) (r := .cmdstat) rfl]
      simp [readReg, hfifo]
    case command =>
      rw [readWord_offset (o := 0x08C) (r := .cmdstat) rfl]
      simp [readReg, hfifo]
    case linjc =>
      have act := acts_registerWrite (o := BitVec.ofNat 12 (0x118 + 64 * n.val)) (r := .linjc n)
        (by simp only [regOffset, BitVec.toNat_ofNat]; omega) data s
      rwa [hostWriteReg_writable hload hbusy, writeReg, writeLinjc_eq] at act
    case intstatWrite =>
      intro t
      have written : hostWriteReg .intstat data s = t := by
        rw [hostWriteReg_writable hload hbusy]
        exact writeIntstat_keep hkeep s
      exact ⟨written ▸ acts_registerWrite rfl data s, written ▸ acts_inTurn (fun _ => rfl) s⟩

end Sys2Proof.Machine
end

section
/-! SUPPORT. What touches the register fields of which some encodings stand for no value (R21, R89, R137, R156):
a write of their register, a preset of it and a reset, and nothing else. One lemma per operation, in the order of the
model, and the statement O9. -/

namespace Sys2Proof.Machine

/-- The configuration words of a lane of which some encodings stand for no value (R21). -/
def Lane.settings (l : Lane) : Word × Word × Word × BitVec 3 := (l.lctl, l.lfmt, l.lhdr, l.linjc)

/-- Those words of each lane, TGCFG of each line, RQUOTA of each route and CMPMOD.COUNT are the same in t as in s. -/
@[simp] abbrev KeepsSettings (t s : State) : Prop :=
  mapVec Lane.settings t.lanes = mapVec Lane.settings s.lanes ∧ mapVec Trig.cfg t.trigs = mapVec Trig.cfg s.trigs
    ∧ mapVec Route.rquota t.routes = mapVec Route.rquota s.routes ∧ t.irq.cmpCount = s.irq.cmpCount

theorem KeepsSettings.refl (s : State) : KeepsSettings s s := ⟨rfl, rfl, rfl, rfl⟩

theorem KeepsSettings.trans {u t s : State} (h : KeepsSettings u t) (k : KeepsSettings t s) : KeepsSettings u s := by
  obtain ⟨h1, h2, h3, h4⟩ := h
  obtain ⟨k1, k2, k3, k4⟩ := k
  exact ⟨h1.trans k1, h2.trans k2, h3.trans k3, h4.trans k4⟩

/-- An operation that is carried out under a condition keeps the settings when it does. -/
theorem KeepsSettings.ite {p : Prop} [Decidable p] {t s : State} (h : KeepsSettings t s) :
    KeepsSettings (if p then t else s) s := by
  split
  · exact h
  · exact .refl s

/-- A row of operations that each keep the settings keeps them. -/
theorem foldl_keepsSettings {α : Type} {f : State → α → State} (h : ∀ s a, KeepsSettings (f s a) s) (l : List α)
    (s : State) : KeepsSettings (l.foldl f s) s := by
  induction l generalizing s with
  | nil => exact .refl s
  | cons a l ih => exact (ih (f s a)).trans (h s a)

/-! ### One lane, route or line -/

/-- Lanes have the same settings when the four words agree. -/
@[simp] theorem settings_eq_iff {l m : Lane} :
    l.settings = m.settings ↔ l.lctl = m.lctl ∧ l.lfmt = m.lfmt ∧ l.lhdr = m.lhdr ∧ l.linjc = m.linjc := by
  simp [Lane.settings]

@[simp] theorem toSearch_settings (l : Lane) (cold : Bool) : (l.toSearch cold).settings = l.settings :=
  settings_eq_iff.mpr ⟨rfl, rfl, rfl, rfl⟩

@[simp] theorem count_settings (l : Lane) (c : LaneCtr) : (l.count c).settings = l.settings :=
  settings_eq_iff.mpr ⟨rfl, rfl, rfl, rfl⟩

@[simp] theorem toSyncPhase_settings (l : Lane) : l.toSyncPhase.settings = l.settings :=
  settings_eq_iff.mpr ⟨rfl, rfl, rfl, rfl⟩

@[simp] theorem start_settings (l : Lane) : l.start.settings = l.settings :=
  settings_eq_iff.mpr ⟨rfl, rfl, rfl, rfl⟩

@[simp] theorem latchRate_settings (l : Lane) : l.latchRate.settings = l.settings :=
  settings_eq_iff.mpr ⟨rfl, rfl, rfl, rfl⟩

@[simp] theorem deviceReset_settings (l : Lane) : l.deviceReset.settings = l.settings :=
  settings_eq_iff.mpr ⟨rfl, rfl, rfl, rfl⟩

@[simp] theorem takeBit_settings (l : Lane) (b : Bool) : (l.takeBit b).settings = l.settings := by
  unfold Lane.takeBit
  dsimp only
  split <;> rfl

@[simp] theorem markBy_settings (l : Lane) (n : Fin 4) (t : DWord) : (l.markBy n t).settings = l.settings := by
  unfold Lane.markBy
  split
  · rfl
  · split <;> rfl

@[simp] theorem restart_settings (l : Lane) : l.restart.settings = l.settings := by
  unfold Lane.restart
  split <;> rfl

@[simp] theorem countTick_settings (l : Lane) : l.countTick.settings = l.settings := by
  unfold Lane.countTick
  split <;> rfl

/-- An entry replaced by one that reads the same. -/
theorem mapVec_set_eq {α β : Type} {n : Nat} {f : α → β} {v : Vector α n} {i : Nat} {hi : i < n} {x : α}
    (h : f x = f v[i]) : mapVec f (v.set i x) = mapVec f v := by
  ext j hj
  simp only [getElem_mapVec, Vector.getElem_set]
  split
  next e => subst e; exact h
  next => rfl

/-- Entries each replaced by one that reads the same. -/
@[simp] theorem mapVec_mapVec_eq {α β : Type} {n : Nat} {f : α → β} {g : α → α} {v : Vector α n}
    (h : ∀ x, f (g x) = f x) :
    mapVec f (mapVec g v) = mapVec f v := by
  ext j hj
  simp [h]

@[simp] theorem setLane_settings {s : State} {n : Fin 4} {l : Lane} (h : l.settings = (s.lane n).settings) :
    mapVec Lane.settings (s.setLane n l).lanes = mapVec Lane.settings s.lanes := mapVec_set_eq h

@[simp] theorem modLane_settings {s : State} {n : Fin 4} {f : Lane → Lane}
    (h : (f (s.lane n)).settings = (s.lane n).settings) :
    mapVec Lane.settings (s.modLane n f).lanes = mapVec Lane.settings s.lanes := mapVec_set_eq h

@[simp] theorem modRoute_quota {s : State} {r : Fin 16} {f : Route → Route}
    (h : (f (s.route r)).rquota = (s.route r).rquota) :
    mapVec Route.rquota (s.modRoute r f).routes = mapVec Route.rquota s.routes := mapVec_set_eq h

@[simp] theorem setTrig_cfg {s : State} {n : Fin 4} {t : Trig} (h : t.cfg = (s.trig n).cfg) :
    mapVec Trig.cfg (s.setTrig n t).trigs = mapVec Trig.cfg s.trigs := mapVec_set_eq h

@[simp] theorem modTrig_cfg {s : State} {n : Fin 4} {f : Trig → Trig} (h : (f (s.trig n)).cfg = (s.trig n).cfg) :
    mapVec Trig.cfg (s.modTrig n f).trigs = mapVec Trig.cfg s.trigs := mapVec_set_eq h

/-- A counter is no setting. -/
@[simp] theorem bumpLane_settings (n : Fin 4) (c : LaneCtr) (s : State) :
    mapVec Lane.settings (bumpLane n c s).lanes = mapVec Lane.settings s.lanes := modLane_settings rfl

@[simp] theorem bumpRoute_quota (r : Fin 16) (c : RouteCtr) (s : State) :
    mapVec Route.rquota (bumpRoute r c s).routes = mapVec Route.rquota s.routes := modRoute_quota rfl

@[simp] theorem setFate_settings (n : Fin 4) (fate : Fate) (s : State) :
    mapVec Lane.settings (setFate n fate s).lanes = mapVec Lane.settings s.lanes := modLane_settings rfl

/-- A pulse and the FLOW state are no settings. -/
@[simp] theorem pulseSource_cfg (src : Nat) (s : State) :
    mapVec Trig.cfg (pulseSource src s).trigs = mapVec Trig.cfg s.trigs :=
  mapVec_mapVec_eq fun t => by split <;> rfl

@[simp] theorem pulseRouteStart_cfg (r : Fin 16) (s : State) :
    mapVec Trig.cfg (pulseRouteStart r s).trigs = mapVec Trig.cfg s.trigs :=
  mapVec_mapVec_eq fun t => by split <;> rfl

@[simp] theorem evalFlow_cfg (t : Trig) (h : Nat) : (t.evalFlow h).cfg = t.cfg := by
  unfold Trig.evalFlow
  split
  · rfl
  · split <;> rfl

@[simp] theorem flowEval_cfg (r : Fin 16) (s : State) :
    mapVec Trig.cfg (flowEval r s).trigs = mapVec Trig.cfg s.trigs :=
  mapVec_mapVec_eq fun t => by split <;> simp

/-! ### Release and queues -/

@[simp] theorem shedTest_keepsSettings (b : Bool) (s : State) : KeepsSettings (shedTest b s) s := by
  unfold shedTest; split
  · cases b <;> simp
  · simp

@[simp] theorem releaseChain_keepsSettings (r : Fin 16) (c : List Nat) (s : State) :
    KeepsSettings (releaseChain r c s) s := by
  simp [releaseChain]

@[simp] theorem loseMarks_keepsSettings (n : Fin 4) (m : Bool) (s : State) : KeepsSettings (loseMarks n m s) s := by
  cases m <;> simp [loseMarks]

@[simp] theorem dropHead_keepsSettings (r : Fin 16) (lost : Bool) (s : State) :
    KeepsSettings (dropHead r lost s) s := by
  unfold dropHead; split <;> simp

/-! ### Route moves -/

@[simp] theorem enterRunning_keepsSettings (r : Fin 16) (s : State) : KeepsSettings (enterRunning r s) s := by
  simp [enterRunning]

@[simp] theorem startRoute_keepsSettings (r : Fin 16) (line : Option (Fin 4)) (s : State) :
    KeepsSettings (startRoute r line s) s := by
  simp [startRoute]

@[simp] theorem enterStopping_keepsSettings (r : Fin 16) (s : State) : KeepsSettings (enterStopping r s) s := by
  simp [enterStopping]

@[simp] theorem triggerRoute_keepsSettings (n : Fin 4) (t : Trig) (s : State) (r : Fin 16) :
    KeepsSettings (triggerRoute n t s r) s := by
  unfold triggerRoute
  split
  · split <;> simp
  · split <;> simp
  · simp

/-! ### Classification and admission -/

@[simp] theorem storeBody_keepsSettings (n : Fin 4) (k : Nat) (bytes : List Byte) (s : State) :
    KeepsSettings (storeBody n k bytes s) s := by
  unfold storeBody
  split
  · split <;> simp
  · simp

@[simp] theorem dropFrame_keepsSettings (n : Fin 4) (s : State) : KeepsSettings (dropFrame n s) s := by
  unfold dropFrame; split <;> simp

@[simp] theorem refuse_keepsSettings (n : Fin 4) (r : Fin 16) (c : RouteCtr) (s : State) :
    KeepsSettings (refuse n r c s) s := by
  simp [refuse]

@[simp] theorem evictOldest_keepsSettings (r : Fin 16) (s : State) : KeepsSettings (evictOldest r s) s := by
  unfold evictOldest; split <;> simp

@[simp] theorem evictWhile_keepsSettings (more : State → Bool) (r : Fin 16) (k : Nat) (s : State) :
    KeepsSettings (evictWhile more r k s) s := by
  induction k generalizing s with
  | zero => exact .refl s
  | succ k ih =>
    unfold evictWhile
    split
    · exact (ih _).trans (evictOldest_keepsSettings r s)
    · exact .refl s

@[simp] theorem quotaEvict_keepsSettings (r : Fin 16) (B : Nat) (s : State) : KeepsSettings (quotaEvict r B s) s := by
  unfold quotaEvict; split <;> simp

@[simp] theorem retainEvict_keepsSettings (r : Fin 16) (s : State) : KeepsSettings (retainEvict r s) s := by
  unfold retainEvict; split <;> simp

@[simp] theorem refuseQuota_keepsSettings (n : Fin 4) (r : Fin 16) (B : Nat) (s : State) :
    KeepsSettings (refuseQuota n r B s) s := by
  unfold refuseQuota; split <;> simp

@[simp] theorem refuseThreshold_keepsSettings (n : Fin 4) (r : Fin 16) (B : Nat) (s : State) :
    KeepsSettings (refuseThreshold n r B s) s := by
  unfold refuseThreshold
  split
  · split <;> simp
  · split <;> simp

@[simp] theorem countBudget_keepsSettings (n : Fin 4) (r : Fin 16) (s : State) :
    KeepsSettings (countBudget n r s) s := by
  unfold countBudget
  dsimp only
  split
  · split <;> simp
  · simp

@[simp] theorem takeBlocks_keepsSettings (B : Nat) (s : State) : KeepsSettings (takeBlocks B s) s := .refl s

@[simp] theorem reserve_keepsSettings (n : Fin 4) (t : Ticket) (B : Nat) (s : State) :
    KeepsSettings (reserve n t B s) s := by
  have counted (u : State) :
      mapVec Route.rquota (u.modRoute t.route (fun x => ({ x with quotaEp := false } : Route).count .admitted 1)).routes
        = mapVec Route.rquota u.routes := modRoute_quota rfl
  unfold reserve
  cases (s.route t.route).high <;> simp [counted]

@[simp] theorem admitFrame_keepsSettings (n : Fin 4) (L : Nat) (t : Ticket) (s : State) :
    KeepsSettings (admitFrame n L t s) s := by
  unfold admitFrame
  dsimp only
  generalize blockNeed _ = B
  cases gateRefusal s t.route with
  | some c => simp
  | none =>
    dsimp only
    split
    · simp
    · split <;> simp

@[simp] theorem setEntry_keepsSettings (s : State) (i : Fin 32) (e : MatchEntry) :
    KeepsSettings (s.setEntry i e) s := .refl s

@[simp] theorem classify_keepsSettings (n : Fin 4) (L : Nat) (head : List Byte) (s : State) :
    KeepsSettings (classify n L head s) s := by
  unfold classify
  dsimp only
  split
  · split <;> simp
  · split <;> simp

@[simp] theorem seqCheck_keepsSettings (n : Fin 4) (t : Ticket) (v : FcsVerdict) (s : State) :
    KeepsSettings (seqCheck n t v s).1 s := by
  unfold seqCheck
  dsimp only
  split
  · simp
  · split <;> simp

@[simp] theorem discardFrame_keepsSettings (n : Fin 4) (f : FrameCtx) (t : Ticket) (c : RouteCtr) (s : State) :
    KeepsSettings (discardFrame n f t c s) s := by
  simp [discardFrame, closeFrame]

@[simp] theorem commitFrame_keepsSettings (n : Fin 4) (f : FrameCtx) (t : Ticket) (L : Nat) (v : FcsVerdict)
    (q : SeqVerdict) (s : State) : KeepsSettings (commitFrame n f t L v q s) s := by
  simp [commitFrame, closeFrame]

@[simp] theorem finalize_keepsSettings (n : Fin 4) (f : FrameCtx) (t : Ticket) (L : Nat) (v : FcsVerdict) (s : State) :
    KeepsSettings (finalize n f t L v s) s := by
  unfold finalize
  dsimp only
  split
  · simp
  · split <;> simp

/-! ### The synchronizer -/

@[simp] theorem frameStart_keepsSettings (n : Fin 4) (coast : Bool) (s : State) :
    KeepsSettings (frameStart n coast s) s := by
  simp [frameStart, Lane.clearMarks, Lane.beginBody]

@[simp] theorem acquireLock_keepsSettings (n : Fin 4) (s : State) : KeepsSettings (acquireLock n s) s := by
  simp [acquireLock]

@[simp] theorem loseLock_keepsSettings (n : Fin 4) (s : State) : KeepsSettings (loseLock n s) s := by
  simp [loseLock]

@[simp] theorem syncFoundAt_keepsSettings (n : Fin 4) (s : State) : KeepsSettings (syncFoundAt n s) s := by
  unfold syncFoundAt
  dsimp only
  split
  · split
    · split <;> simp [Lane.beginBody]
    · simp
  · simp

@[simp] theorem syncPositionAt_keepsSettings (n : Fin 4) (s : State) : KeepsSettings (syncPositionAt n s) s := by
  unfold syncPositionAt
  dsimp only
  split
  · split
    · split
      · split <;> simp [Lane.beginBody]
      · simp
    · split
      · simp
      · split <;> simp
    · split
      · simp
      · split <;> simp
    · simp
  · simp

@[simp] theorem lengthError_keepsSettings (n : Fin 4) (L : Int) (s : State) : KeepsSettings (lengthError n L s) s := by
  unfold lengthError
  dsimp only
  split <;> simp

@[simp] theorem headerKnown_keepsSettings (n : Fin 4) (L : Nat) (head : List Byte) (s : State) :
    KeepsSettings (headerKnown n L head s) s := by
  unfold headerKnown
  dsimp only
  split <;> simp

@[simp] theorem headerExtentAt_keepsSettings (n : Fin 4) (s : State) : KeepsSettings (headerExtentAt n s) s := by
  unfold headerExtentAt
  dsimp only
  split
  · split
    · split
      · split <;> simp
      · simp
    · simp
  · simp

@[simp] theorem frameEndAt_keepsSettings (n : Fin 4) (s : State) : KeepsSettings (frameEndAt n s) s := by
  unfold frameEndAt
  dsimp only
  split
  · split
    · rename_i f _ _
      cases f.fate <;> simp
    · simp
  · simp

@[simp] theorem flipAt_keepsSettings (n : Fin 4) (s : State) : KeepsSettings (flipAt n s) s := by
  unfold flipAt; split <;> simp

@[simp] theorem settleSync_keepsSettings (n : Fin 4) (s : State) : KeepsSettings (settleSync n s) s := by
  simp [settleSync]

@[simp] theorem settleLane_keepsSettings (n : Fin 4) (s : State) : KeepsSettings (settleLane n s) s := by
  simp [settleLane]

@[simp] theorem flipRow_keepsSettings (n : Fin 4) (s : State) : KeepsSettings (flipRow n s) s := by
  unfold flipRow; split <;> simp

@[simp] theorem bodyByte_keepsSettings (n : Fin 4) (b : Byte) (s : State) : KeepsSettings (bodyByte n b s) s := by
  unfold bodyByte
  dsimp only
  split <;> simp

@[simp] theorem phaseBit_keepsSettings (n : Fin 4) (b : Bool) (s : State) : KeepsSettings (phaseBit n b s) s := by
  unfold phaseBit
  dsimp only
  split
  · simp
  · split
    · simp
    · split <;> simp

/-- A bit that enters the history is no setting, and neither is the comparison it makes due. -/
@[simp] theorem handBit_keepsSettings (n : Fin 4) (b : Bool) (s : State) : KeepsSettings (handBit n b s) s := by
  have taken (l : Lane) := settings_eq_iff.mp (takeBit_settings l b)
  unfold handBit
  dsimp only
  split <;> simp [taken]

@[simp] theorem abandon_keepsSettings (n : Fin 4) (s : State) : KeepsSettings (abandon n s) s := by
  unfold abandon
  dsimp only
  split
  · simp
  · split <;> simp

/-! ### The lane receivers -/

@[simp] theorem disableLane_keepsSettings (n : Fin 4) (s : State) : KeepsSettings (disableLane n s) s := by
  simp [disableLane, Lane.toSearch, Lane.clearMarks]

@[simp] theorem enableLane_keepsSettings (n : Fin 4) (report : Bool) (s : State) :
    KeepsSettings (enableLane n report s).1 s := by
  unfold enableLane
  dsimp only
  split
  · simp
  · cases report <;> simp

@[simp] theorem refuseWrite_keepsSettings (report : Bool) (source : Byte) (offset : Nat) (data : Word) (s : State) :
    KeepsSettings (refuseWrite report source offset data s) s := by
  cases report <;> simp [refuseWrite]

@[simp] theorem writeLinj_keepsSettings (n : Fin 4) (data : Word) (s : State) :
    KeepsSettings (writeLinj n data s) s := by
  unfold writeLinj
  dsimp only
  split
  · split <;> simp
  · simp

@[simp] theorem clockLostAt_keepsSettings (n : Fin 4) (s : State) : KeepsSettings (clockLostAt n s) s := by
  unfold clockLostAt; split <;> simp [Lane.toSearch]

@[simp] theorem clockRestoredAt_keepsSettings (n : Fin 4) (s : State) : KeepsSettings (clockRestoredAt n s) s := by
  unfold clockRestoredAt; split <;> simp [Lane.toSearch]

@[simp] theorem clockEdge_keepsSettings (n : Fin 4) (rising level : Bool) (s : State) :
    KeepsSettings (clockEdge n rising level s) s := by
  unfold clockEdge
  dsimp only
  split
  · split <;> simp
  · simp

@[simp] theorem feedAt_keepsSettings (n : Fin 4) (s : State) : KeepsSettings (feedAt n s) s := by
  unfold feedAt
  dsimp only
  split
  · split <;> simp
  · simp

/-! ### The timebase and the trigger port -/

theorem armedLoad_keepsSettings (s : State) : KeepsSettings (armedLoad s) s := by
  unfold armedLoad; split <;> simp [loadEpoch]

theorem actSync_keepsSettings (s : State) : KeepsSettings (actSync s) s := by
  unfold actSync
  dsimp only
  split <;> split <;> simp [armedLoad_keepsSettings]

theorem sampleSync_keepsSettings (level : Bool) (s : State) : KeepsSettings (sampleSync level s) s := by
  unfold sampleSync acceptSync
  dsimp only
  split
  · simp
  · split
    · simp
    · split
      · split <;> simp [actSync_keepsSettings]
      · simp

theorem syncMissingAt_keepsSettings (s : State) : KeepsSettings (syncMissingAt s) s := by
  unfold syncMissingAt; split <;> simp

@[simp] theorem periodicTickAt_keepsSettings (s : State) : KeepsSettings (periodicTickAt s) s := by
  unfold periodicTickAt; split <;> simp

@[simp] theorem applyMarks_keepsSettings (n : Fin 4) (s : State) : KeepsSettings (applyMarks n s) s :=
  foldl_keepsSettings (fun s k => by split <;> simp) _ s

@[simp] theorem applyRoutes_keepsSettings (n : Fin 4) (s : State) : KeepsSettings (applyRoutes n s) s := by
  unfold applyRoutes
  exact foldl_keepsSettings (f := fun s r => triggerRoute n (s.trig n) s r)
    (fun s r => triggerRoute_keepsSettings n (s.trig n) s r) _ s

@[simp] theorem actTrigger_keepsSettings (n : Fin 4) (rising : Bool) (s : State) :
    KeepsSettings (actTrigger n rising s) s := by
  unfold actTrigger
  dsimp only
  split <;> simp

@[simp] theorem sampleTrigger_keepsSettings (n : Fin 4) (level : Bool) (s : State) :
    KeepsSettings (sampleTrigger n level s) s := by
  unfold sampleTrigger acceptTrigger
  dsimp only
  split
  · split
    · simp
    · split
      · split <;> simp
      · simp
  · simp

@[simp] theorem pulseEndAt_keepsSettings (n : Fin 4) (s : State) : KeepsSettings (pulseEndAt n s) s := by
  unfold pulseEndAt
  dsimp only
  split <;> simp

/-! ### Resets -/

theorem trig_deviceReset_cfg (t : Trig) : t.deviceReset.cfg = t.cfg := by
  unfold Trig.deviceReset
  dsimp only
  split
  · exact evalFlow_cfg _ _
  · rfl

/-- A device reset keeps the configuration (R177). -/
theorem deviceReset_keepsSettings (s : State) : KeepsSettings (deviceReset s) s :=
  ⟨mapVec_mapVec_eq deviceReset_settings, mapVec_mapVec_eq trig_deviceReset_cfg, mapVec_mapVec_eq fun _ => rfl, rfl⟩

@[simp] theorem writeDevctl_keepsSettings (data : Word) (allowReset : Bool) (s : State) :
    KeepsSettings (writeDevctl data allowReset s) s := by
  unfold writeDevctl
  dsimp only
  split
  · exact deviceReset_keepsSettings _
  · simp

@[simp] theorem resetDoneAt_keepsSettings (s : State) : KeepsSettings (resetDoneAt s) s := by
  unfold resetDoneAt; split <;> simp

/-! ### Host accesses -/

@[simp] theorem hostRead_keepsSettings (o : Nat) (s : State) : KeepsSettings (hostRead o s) s := by
  unfold hostRead
  dsimp only
  split <;> simp

@[simp] theorem writeWindow_keepsSettings (w : Fin 4) (reg : WindowReg) (data : Word) (report : Bool) (s : State) :
    KeepsSettings (writeWindow w reg data report s).1 s := by
  unfold writeWindow; split <;> simp

@[simp] theorem writeCrbase_keepsSettings (h : BaseHalf) (data : Word) (report : Bool) (s : State) :
    KeepsSettings (writeCrbase h data report s).1 s := by
  unfold writeCrbase; split <;> simp

@[simp] theorem writeCrcfg_keepsSettings (data : Word) (report : Bool) (s : State) :
    KeepsSettings (writeCrcfg data report s).1 s := by
  unfold writeCrcfg
  dsimp only
  split
  · split
    · split <;> simp
    · simp
  · simp

@[simp] theorem writeRpost_keepsSettings (r : Fin 16) (data : Word) (s : State) :
    KeepsSettings (writeRpost r data s) s := by
  unfold writeRpost
  dsimp only
  split <;> simp

@[simp] theorem writeCrcons_keepsSettings (data : Word) (s : State) : KeepsSettings (writeCrcons data s) s := by
  unfold writeCrcons
  dsimp only
  split
  · split <;> simp
  · simp

@[simp] theorem writeIntstat_keepsSettings (data : Word) (s : State) : KeepsSettings (writeIntstat data s) s := by
  unfold writeIntstat
  dsimp only
  split <;> simp

@[simp] theorem offerCmd_keepsSettings (c : Cmd) (s : State) : KeepsSettings (offerCmd c s) s := by
  unfold offerCmd; split <;> simp

@[simp] theorem refuseAccess_keepsSettings (offset : BitVec 12) (write : Bool) (bytes : BitVec 4) (data : Word)
    (s : State) : KeepsSettings (refuseAccess offset write bytes data s) s := by
  unfold refuseAccess
  cases write <;> simp only [Bool.false_eq_true, if_true, if_false]
  · split <;> simp
  · split <;> simp

/-! ### The delivery engine -/

/-- An engine step keeps the clock when its effect does. -/
theorem engineStep_keepsSettings {f : State → State} {s : State} (h : KeepsSettings (f s) s) :
    KeepsSettings (engineStep f s) s := by
  unfold engineStep
  split
  · exact .refl s
  · exact h

@[simp] theorem fetch_keepsSettings (r : Fin 16) (s : State) : KeepsSettings (fetch r s) s := by
  unfold fetch
  dsimp only
  split <;> simp

@[simp] theorem readDone_keepsSettings (r : Fin 16) (answer : ReadAnswer) (s : State) :
    KeepsSettings (readDone r answer s) s := by
  unfold readDone
  split
  · simp [endOldRead]
  · split
    · split <;> simp [endRead]
    · simp

@[simp] theorem readTimeout_keepsSettings (r : Fin 16) (s : State) : KeepsSettings (readTimeout r s) s := by
  unfold readTimeout
  split
  · unfold timeOldRead
    dsimp only
    split <;> simp
  · split
    · split <;> simp [endRead]
    · simp

@[simp] theorem haltRoute_keepsSettings (r : Fin 16) (f : DescFault) (idx : Nat) (s : State) :
    KeepsSettings (haltRoute r f idx s) s := by
  simp [haltRoute]

@[simp] theorem openBuffer_keepsSettings (r : Fin 16) (s : State) : KeepsSettings (openBuffer r s) s := by
  unfold openBuffer
  split
  · split
    · simp
    · split <;> simp
  · simp

@[simp] theorem closeBuffer_keepsSettings (r : Fin 16) (reason : Reason) (s : State) :
    KeepsSettings (closeBuffer r reason s) s := by
  simp [closeBuffer]

@[simp] theorem takeTurn_keepsSettings (r : Fin 16) (x : Record) (b : Buffer) (s : State) :
    KeepsSettings (takeTurn r x b s) s := by
  unfold takeTurn
  split
  · simp [oversizeRecord]
  · split <;> simp [startRecord]

@[simp] theorem placeTurn_keepsSettings (s : State) : KeepsSettings (placeTurn s) s := by
  unfold placeTurn
  split
  · split
    · simp
    · dsimp only
      split <;> simp
  · simp

@[simp] theorem finishRecord_keepsSettings (r : Fin 16) (x : Record) (s : State) :
    KeepsSettings (finishRecord r x s) s := by
  simp [finishRecord, Route.count]

@[simp] theorem payloadOne_keepsSettings (p : InProgress) (s : State) : KeepsSettings (payloadOne p s) s := by
  unfold payloadOne
  split
  · dsimp only
    split <;> simp
  · simp

@[simp] theorem payloadLoop_keepsSettings (k : Nat) (s : State) : KeepsSettings (payloadLoop k s) s := by
  induction k generalizing s with
  | zero => exact .refl s
  | succ k ih =>
    unfold payloadLoop
    split
    · exact .refl s
    · exact (ih _).trans (payloadOne_keepsSettings _ s)

@[simp] theorem continueRecord_keepsSettings (k : Nat) (s : State) : KeepsSettings (continueRecord k s) s := by
  unfold continueRecord; split <;> simp

@[simp] theorem tryClose_keepsSettings (due : Bool) (reason : Reason) (r : Fin 16) (s : State) :
    KeepsSettings (tryClose due reason r s) s := by
  unfold tryClose
  split
  · simp
  · split <;> simp

@[simp] theorem postEntry_keepsSettings (e : Completion) (s : State) : KeepsSettings (postEntry e s) s := .refl s

@[simp] theorem joinBacklog_keepsSettings (e : Completion) (s : State) : KeepsSettings (joinBacklog e s) s := by
  unfold joinBacklog
  dsimp only
  split <;> simp

/-- Making an entry keeps the clock when what it does to the route does. -/
theorem makeEntry_keepsSettings (e : Completion) {made : State → State} {s : State} (h : KeepsSettings (made s) s) :
    KeepsSettings (makeEntry e made s) s := by
  rcases makeEntry_cases e made s with ⟨eq, -⟩ | ⟨eq, -⟩ | ⟨eq, -⟩ <;> rw [eq]
  · exact (joinBacklog_keepsSettings e _).trans h
  · exact (postEntry_keepsSettings e _).trans h
  · exact .refl s

@[simp] theorem completeBuffer_keepsSettings (r : Fin 16) (s : State) : KeepsSettings (completeBuffer r s) s := by
  unfold completeBuffer
  split
  · split
    · split
      · simp
      · exact makeEntry_keepsSettings _ (by simp [Route.countEntry, Route.count])
    · simp
  · simp

@[simp] theorem cancelOne_keepsSettings (r : Fin 16) (s : State) : KeepsSettings (cancelOne r s) s := by
  unfold cancelOne
  split
  · exact makeEntry_keepsSettings _ (by simp [Route.cancelDone, Route.countEntry, Route.count])
  · simp

@[simp] theorem drainLoop_keepsSettings (k : Nat) (s : State) : KeepsSettings (drainLoop k s) s := by
  induction k generalizing s with
  | zero => exact .refl s
  | succ k ih =>
    unfold drainLoop
    split
    · exact .refl s
    · split
      · dsimp only
        split
        · simp
        · exact (ih _).trans (postEntry_keepsSettings _ _)
      · exact .refl s

@[simp] theorem closeRoute_keepsSettings (r : Fin 16) (how : Word) (s : State) :
    KeepsSettings (closeRoute r how s) s := by
  simp [closeRoute]

@[simp] theorem enterQuiesced_keepsSettings (s : State) : KeepsSettings (enterQuiesced s) s := by
  simp [enterQuiesced]

/-! ### Commands -/

@[simp] theorem endCmd_keepsSettings (c : Cmd) (res : Result) (b : Word) (s : State) :
    KeepsSettings (endCmd c res b s) s := .refl s

/-- The command step keeps the place when the command's owner does. -/
theorem runCmd_keepsSettings {op : Byte} {owner : Cmd → State → State} {s : State}
    (h : ∀ c, KeepsSettings (owner c s) s) : KeepsSettings (runCmd op owner s) s := by
  unfold runCmd
  split
  · split
    · split
      · exact h _
      · simp
    · simp
  · simp

@[simp] theorem snapLane_keepsSettings (clear : Bool) (n : Fin 4) (s : State) :
    KeepsSettings (snapLane clear n s) s := by
  cases clear <;> simp [snapLane]

@[simp] theorem snapRoute_keepsSettings (clear : Bool) (r : Fin 16) (s : State) :
    KeepsSettings (snapRoute clear r s) s := by
  cases clear <;> simp [snapRoute]

@[simp] theorem snapCounters_keepsSettings (target : Nat) (clear : Bool) (s : State) :
    KeepsSettings (snapCounters target clear s) s := by
  unfold snapCounters
  split
  · simp
  · split
    · simp
    · exact (foldl_keepsSettings (fun s r => snapRoute_keepsSettings clear r s) _ _).trans
        (foldl_keepsSettings (fun s n => snapLane_keepsSettings clear n s) _ _)

@[simp] theorem runSnapshot_keepsSettings (c : Cmd) (s : State) : KeepsSettings (runSnapshot c s) s := by
  simp [runSnapshot]

@[simp] theorem runUnknown_keepsSettings (s : State) : KeepsSettings (runUnknown s) s := by
  unfold runUnknown
  split
  · split <;> simp
  · simp

/-- A route command keeps the clock when its effect does. -/
theorem runRouteCmd_keepsSettings {act : Fin 16 → State → State × Result} {s : State}
    (h : ∀ r, KeepsSettings (act r s).1 s) (c : Cmd) : KeepsSettings (runRouteCmd act c s) s :=
  (endCmd_keepsSettings c _ _ _).trans (h c.route)

@[simp] theorem armRoute_keepsSettings (r : Fin 16) (s : State) : KeepsSettings (armRoute r s).1 s := by
  unfold armRoute
  split
  · split <;> simp
  all_goals simp

@[simp] theorem startCmd_keepsSettings (r : Fin 16) (s : State) : KeepsSettings (startCmd r s).1 s := by
  unfold startCmd
  split
  · simp
  · split
    · split <;> simp
    all_goals simp

@[simp] theorem stopCmd_keepsSettings (r : Fin 16) (s : State) : KeepsSettings (stopCmd r s).1 s := by
  unfold stopCmd
  split
  · simp
  · split <;> simp
  all_goals simp

@[simp] theorem withdrawFrame_keepsSettings (r : Fin 16) (s : State) (n : Fin 4) :
    KeepsSettings (withdrawFrame r s n) s := by
  unfold withdrawFrame
  split
  · split
    · split <;> simp
    · simp
  · simp

@[simp] theorem discardAt_keepsSettings (r : Fin 16) (keep : Nat) (s : State) :
    KeepsSettings (discardAt r keep s) s := by
  unfold discardAt
  dsimp only
  split <;> simp

@[simp] theorem discardQueue_keepsSettings (r : Fin 16) (keep k : Nat) (s : State) :
    KeepsSettings (discardQueue r keep k s) s := by
  induction k generalizing s with
  | zero => exact .refl s
  | succ k ih => exact (ih _).trans (discardAt_keepsSettings r keep s)

@[simp] theorem enterAborting_keepsSettings (r : Fin 16) (s : State) : KeepsSettings (enterAborting r s) s := by
  have withdrawn := foldl_keepsSettings (withdrawFrame_keepsSettings r) allLanes
    (s.modRoute r (fun t => { t with st := .aborting }))
  simpa [enterAborting] using withdrawn

@[simp] theorem abortCmd_keepsSettings (r : Fin 16) (s : State) : KeepsSettings (abortCmd r s).1 s := by
  unfold abortCmd
  split
  case h_5 =>
    split
    · simp
    · split <;> simp
  all_goals simp

@[simp] theorem resumeCmd_keepsSettings (r : Fin 16) (s : State) : KeepsSettings (resumeCmd r s).1 s := by
  unfold resumeCmd
  split
  · dsimp only
    split <;> simp
  · simp

@[simp] theorem flushCmd_keepsSettings (r : Fin 16) (s : State) : KeepsSettings (flushCmd r s).1 s := by
  unfold flushCmd
  split
  · split <;> simp
  · simp

@[simp] theorem runMatchWrite_keepsSettings (c : Cmd) (s : State) : KeepsSettings (runMatchWrite c s) s := by
  unfold runMatchWrite
  split <;> simp

@[simp] theorem runLaneResync_keepsSettings (c : Cmd) (s : State) : KeepsSettings (runLaneResync c s) s := by
  unfold runLaneResync
  dsimp only
  split <;> simp

@[simp] theorem runQuiesce_keepsSettings (c : Cmd) (s : State) : KeepsSettings (runQuiesce c s) s := by
  unfold runQuiesce; split <;> simp

@[simp] theorem runUnquiesce_keepsSettings (c : Cmd) (s : State) : KeepsSettings (runUnquiesce c s) s := by
  unfold runUnquiesce; split <;> simp

/-! ### The store controller -/

@[simp] theorem recordOutcome_keepsSettings (o : LoadOutcome) (s : State) : KeepsSettings (recordOutcome o s) s := by
  cases o <;> simp [recordOutcome, postOutcome]

@[simp] theorem endBoot_keepsSettings (o : LoadOutcome) (s : State) : KeepsSettings (endBoot o s) s := by
  simp [endBoot]

@[simp] theorem endStoreCmd_keepsSettings (res : Result) (b : Word) (s : State) :
    KeepsSettings (endStoreCmd res b s) s := by
  unfold endStoreCmd; split <;> simp

@[simp] theorem endReload_keepsSettings (o : LoadOutcome) (s : State) : KeepsSettings (endReload o s) s := by
  simp [endReload]

@[simp] theorem endStoreWord_keepsSettings (res : Result) (b : Word) (s : State) :
    KeepsSettings (endStoreWord res b s) s := by
  simp [endStoreWord]

@[simp] theorem nextRead_keepsSettings (word : Nat) (job : StoreJob) (s : State) :
    KeepsSettings (nextRead word job s) s := .refl s

@[simp] theorem operationFails_keepsSettings (word : Nat) (s : State) : KeepsSettings (operationFails word s) s := by
  unfold operationFails
  split <;> simp

@[simp] theorem opFail_keepsSettings (s : State) : KeepsSettings (opFail s) s := by
  unfold opFail
  split
  · split <;> simp
  · simp

@[simp] theorem bootStart_keepsSettings (s : State) : KeepsSettings (bootStart s) s := by
  unfold bootStart; split <;> simp

@[simp] theorem holdPort_keepsSettings (word : Nat) (job : StoreJob) (s : State) :
    KeepsSettings (holdPort word job s) s := .refl s

@[simp] theorem runStoreRead_keepsSettings (c : Cmd) (s : State) : KeepsSettings (runStoreRead c s) s := by
  unfold runStoreRead; split <;> simp

@[simp] theorem runStoreWrite_keepsSettings (c : Cmd) (s : State) : KeepsSettings (runStoreWrite c s) s := by
  unfold runStoreWrite
  split
  · simp
  · split <;> simp

@[simp] theorem runStoreLock_keepsSettings (c : Cmd) (s : State) : KeepsSettings (runStoreLock c s) s := by
  unfold runStoreLock
  dsimp only
  split
  · simp
  · split
    · simp
    · split <;> simp

@[simp] theorem runStoreReload_keepsSettings (c : Cmd) (s : State) : KeepsSettings (runStoreReload c s) s := by
  unfold runStoreReload; split <;> simp

/-! ### The interrupt unit -/

@[simp] theorem expireAt_keepsSettings (s : State) : KeepsSettings (expireAt s) s := by
  unfold expireAt; split <;> simp [Interrupts.expire]

@[simp] theorem releaseHeld_keepsSettings (s : State) : KeepsSettings (releaseHeld s) s := by
  unfold releaseHeld; split <;> simp

@[simp] theorem messageAt_keepsSettings (s : State) : KeepsSettings (messageAt s) s := by
  unfold messageAt askMessage
  dsimp only
  split
  · split <;> simp
  · simp

/-! ### The course of a tick -/

/-- As the tick moves on, the queue, the place and the timebase stay as they are. -/
@[simp] theorem passTo_keepsSettings (k : Nat) (s : State) : KeepsSettings (passTo k s) s := by
  have settled (ns : List (Fin 4)) := foldl_keepsSettings (fun u n => settleLane_keepsSettings n u) ns s
  unfold passTo
  dsimp only
  split <;> split <;> simp [settled]

@[simp] theorem evaluate_keepsSettings (s : State) : KeepsSettings (evaluate s) s := by
  simp [evaluate]

/-! ### Legal settings -/

/-- What R19 to R21 ask of a lane, field by field. -/
theorem laneLegal_iff (l : Lane) :
    laneLegal l = true ↔
      (fieldOf l.lctl 8 8 ≠ 0 ∧ fieldOf l.lctl 4 2 ≠ 3)
        ∧ (fieldOf l.lfmt 12 3 ≠ 0 ∧ fieldOf l.lfmt 8 3 ≠ 0 ∧ fieldOf l.lfmt 5 2 ≠ 3)
        ∧ (fieldOf l.lhdr 16 2 ≠ 3 ∧ fieldOf l.lhdr 8 2 ≠ 3) ∧ 1 ≤ l.linjc.toNat ∧ l.linjc.toNat ≤ 4 := by
  simp only [laneLegal, Bool.and_eq_true, bne_iff_ne, decide_eq_true_eq, and_assoc]

theorem trigLegal_iff (t : Trig) : trigLegal t = true ↔ fieldOf t.cfg 1 2 ≠ 3 ∧ fieldOf t.cfg 5 2 ≠ 3 := by
  simp only [trigLegal, Bool.and_eq_true, bne_iff_ne]

/-- Equal settings are legal together. -/
theorem laneLegal_congr {l m : Lane} (h : l.settings = m.settings) (hm : laneLegal m = true) : laneLegal l = true := by
  obtain ⟨lctl, lfmt, lhdr, linjc⟩ := settings_eq_iff.mp h
  rwa [laneLegal, lctl, lfmt, lhdr, linjc]

/-- Entries of equal readings read the same. -/
theorem eq_of_mapVec_eq {α β : Type} {n : Nat} {f : α → β} {v w : Vector α n}
    (h : mapVec f v = mapVec f w) (i : Fin n) :
    f v[i.val] = f w[i.val] := by
  simpa using congrArg (·[i.val]) h

/-- What keeps the settings keeps them legal. -/
theorem ConfigOk.of_keeps {s t : State} (hs : ConfigOk s) (h : KeepsSettings t s) : ConfigOk t := by
  obtain ⟨lanes, lines, quotas, count⟩ := hs
  obtain ⟨hlanes, hlines, hquotas, hcount⟩ := h
  refine ⟨fun n => laneLegal_congr (eq_of_mapVec_eq hlanes n) (lanes n), fun n => ?_, fun r => ?_, hcount ▸ count⟩
  · have cfg : (t.trig n).cfg = (s.trig n).cfg := eq_of_mapVec_eq hlines n
    rw [trigLegal, cfg]
    exact lines n
  · have rquota : (t.route r).rquota = (s.route r).rquota := eq_of_mapVec_eq hquotas r
    rw [Route.quota, rquota]
    exact quotas r

/-- A lane replaced by a legal one. -/
theorem ConfigOk.setLane {s : State} (hs : ConfigOk s) {n : Fin 4} {l : Lane} (hl : laneLegal l = true) :
    ConfigOk (s.setLane n l) := by
  obtain ⟨lanes, rest⟩ := hs
  refine ⟨fun m => ?_, rest⟩
  rw [lane_setLane_ite]
  split
  · exact hl
  · exact lanes m

/-- A line replaced by a legal one. -/
theorem ConfigOk.setTrig {s : State} (hs : ConfigOk s) {n : Fin 4} {t : Trig} (ht : trigLegal t = true) :
    ConfigOk (s.setTrig n t) := by
  obtain ⟨lanes, lines, rest⟩ := hs
  refine ⟨lanes, fun m => ?_, rest⟩
  by_cases h : m = n
  · subst h
    rwa [trig_setTrig]
  · rw [trig_setTrig_ne _ _ h]
    exact lines m

/-- A route replaced by one with a quota in range. -/
theorem ConfigOk.setRoute {s : State} (hs : ConfigOk s) {r : Fin 16} {x : Route} (hx : x.quota ≤ Config.numBlocks) :
    ConfigOk (s.setRoute r x) := by
  obtain ⟨lanes, lines, quotas, count⟩ := hs
  refine ⟨lanes, lines, fun q => ?_, count⟩
  rw [route_setRoute_ite]
  split
  · exact hx
  · exact quotas q

/-! ### Writes keep the settings legal -/

/-- A field that keeps what it holds for one encoding never holds it if it did not before. -/
theorem keep_ne {new old bad : Nat} (h : old ≠ bad) : (if new = bad then old else new) ≠ bad := by
  split
  · exact h
  · assumption

/-- A lane configuration word takes no encoding that stands for no value (R21). -/
theorem laneLegal_withReg {l : Lane} (h : laneLegal l = true) (reg : LaneReg) (data : Word) :
    laneLegal (l.withReg reg (laneRegValue reg (l.reg reg) data)) = true := by
  rw [laneLegal_iff] at h ⊢
  obtain ⟨⟨dwell, polmode⟩, ⟨coast, verify, fcs⟩, ⟨lenwidth, seqwidth⟩, linjc⟩ := h
  cases reg with
  | lctl =>
    obtain ⟨newPolmode, newDwell, -⟩ := laneRegValue_lctl l.lctl data
    refine ⟨⟨?_, ?_⟩, ⟨coast, verify, fcs⟩, ⟨lenwidth, seqwidth⟩, linjc⟩
    · exact newDwell.trans_ne (keep_ne dwell)
    · exact newPolmode.trans_ne (keep_ne polmode)
  | lsync => exact ⟨⟨dwell, polmode⟩, ⟨coast, verify, fcs⟩, ⟨lenwidth, seqwidth⟩, linjc⟩
  | lfmt =>
    obtain ⟨newFcs, newVerify, newCoast, -⟩ := laneRegValue_lfmt l.lfmt data
    refine ⟨⟨dwell, polmode⟩, ⟨?_, ?_, ?_⟩, ⟨lenwidth, seqwidth⟩, linjc⟩
    · exact newCoast.trans_ne (keep_ne coast)
    · exact newVerify.trans_ne (keep_ne verify)
    · exact newFcs.trans_ne (keep_ne fcs)
  | lhdr =>
    obtain ⟨newSeqwidth, newLenwidth, -⟩ := laneRegValue_lhdr l.lhdr data
    refine ⟨⟨dwell, polmode⟩, ⟨coast, verify, fcs⟩, ⟨?_, ?_⟩, linjc⟩
    · exact newLenwidth.trans_ne (keep_ne lenwidth)
    · exact newSeqwidth.trans_ne (keep_ne seqwidth)

theorem writeLaneReg_configOk (n : Fin 4) (reg : LaneReg) (data : Word) (report : Bool)
    {s : State} (hs : ConfigOk s) :
    ConfigOk (writeLaneReg n reg data report s).1 := by
  have written : ConfigOk (s.setLane n ((s.lane n).withReg reg (laneRegValue reg ((s.lane n).reg reg) data))) :=
    hs.setLane (laneLegal_withReg (hs.1 n) reg data)
  by_cases hreg : reg = .lctl
  · subst hreg
    unfold writeLaneReg
    dsimp only
    split
    · split
      · exact written.of_keeps (enableLane_keepsSettings n report _)
      · exact written
    · refine hs.of_keeps ?_
      split <;> split <;> simp
  · by_cases hoff : (s.lane n).st = .off
    · rw [writeLaneReg_off hreg hoff]
      exact written
    · rw [writeLaneReg_on hreg hoff]
      exact hs.of_keeps (refuseWrite_keepsSettings _ _ _ _ _)

/-- LINJC holds 1 to 4 (R21). -/
theorem writeLinjc_configOk (n : Fin 4) (data : Word) {s : State} (hs : ConfigOk s) :
    ConfigOk (writeLinjc n data s) := by
  rw [writeLinjc_eq]
  split
  next range =>
    obtain ⟨lctl, lfmt, lhdr, -⟩ := (laneLegal_iff _).mp (hs.1 n)
    refine hs.setLane ((laneLegal_iff _).mpr ⟨lctl, lfmt, lhdr, ?_⟩)
    rwa [BitVec.toNat_ofNat, Nat.mod_eq_of_lt (by omega)]
  next => exact hs

/-- EDGE and OMODE keep what they hold for an encoding that stands for no value (R137). -/
theorem writeTrig_configOk (n : Fin 4) (reg : TrigReg) (data : Word) {s : State} (hs : ConfigOk s) :
    ConfigOk (writeTrig n reg data s) := by
  obtain ⟨-, lines, -⟩ := id hs
  have legal := lines n
  cases reg with
  | tgcfg =>
    obtain ⟨edge, omode⟩ := (trigLegal_iff _).mp legal
    obtain ⟨newEdge, newOmode, -⟩ := trigCfgValue_fields (s.trig n).cfg data
    have line (h : Nat) : trigLegal ((s.trig n).reconfigure ((s.trig n).withCfg data) h) = true := by
      rw [reconfigure_eq, trigLegal_iff]
      exact ⟨newEdge.trans_ne (keep_ne edge), newOmode.trans_ne (keep_ne omode)⟩
    rw [writeTrig_tgcfg]
    dsimp only
    split
    · refine (hs.setTrig (n := n) (line _)).of_keeps ⟨mapVec_mapVec_eq fun l => ?_, rfl, rfl, rfl⟩
      exact settings_eq_iff.mpr ⟨rfl, rfl, rfl, rfl⟩
    · exact hs.setTrig (line _)
  | tgarg =>
    rw [writeTrig_tgarg]
    exact hs.setTrig legal

/-- RQUOTA keeps what it holds for a quota above the number of blocks (R89). -/
theorem quota_withReg {t : Route} (h : t.quota ≤ Config.numBlocks) (reg : RouteReg) (data : Word) :
    (t.withReg reg (routeRegValue reg (t.reg reg) data)).quota ≤ Config.numBlocks := by
  cases reg with
  | rquota =>
    change fieldOf (if fieldOf data 0 15 > Config.numBlocks then t.rquota else data &&& 0x00007FFF#32) 0 15 ≤ _
    split
    · exact h
    · rw [fieldOf_and_mask _ (by decide)]
      omega
  | _ => exact h

theorem writeRouteReg_configOk (r : Fin 16) (reg : RouteReg) (data : Word) (report : Bool)
    {s : State} (hs : ConfigOk s) :
    ConfigOk (writeRouteReg r reg data report s).1 := by
  unfold writeRouteReg
  dsimp only
  split
  · obtain ⟨-, -, quotas, -⟩ := id hs
    exact hs.setRoute (quota_withReg (quotas r) reg data)
  · exact hs.of_keeps (refuseWrite_keepsSettings _ _ _ _ _)

/-- CMPMOD.COUNT keeps what it holds for 0 (R156). -/
theorem writeCmpmod_configOk (data : Word) {s : State} (hs : ConfigOk s) : ConfigOk (writeCmpmod data s) := by
  obtain ⟨lanes, lines, quotas, count⟩ := hs
  refine ⟨lanes, lines, quotas, ?_⟩
  change (if fieldOf data 0 8 = 0 then s.irq.cmpCount else data.extractLsb' 0 8) ≠ 0#8
  split
  · exact count
  · rename_i nonzero
    intro zero
    refine nonzero ?_
    have : (data.extractLsb' 0 8).toNat = 0 := by rw [zero]; rfl
    simpa [fieldOf] using this

/-- The write of a register, by the host or by a preset, keeps the settings legal. -/
theorem writeReg_configOk (report : Bool) (data : Word) {s : State} (hs : ConfigOk s) (r : Reg) :
    ConfigOk (writeReg report data s r).1 := by
  cases r with
  | lane n reg => exact writeLaneReg_configOk n reg data report hs
  | linjc n => exact writeLinjc_configOk n data hs
  | trig n reg => exact writeTrig_configOk n reg data hs
  | route r reg => exact writeRouteReg_configOk r reg data report hs
  | cmpmod => exact writeCmpmod_configOk data hs
  | _ => exact hs.of_keeps (by simp [writeReg, writeBshed, writeBstat, popEvent])

theorem hostWriteReg_configOk (r : Reg) (data : Word) {s : State} (hs : ConfigOk s) :
    ConfigOk (hostWriteReg r data s) := by
  unfold hostWriteReg
  split
  · exact writeReg_configOk true data hs r
  · exact hs

theorem access_configOk (offset : BitVec 12) (write : Bool) (bytes : BitVec 4) (multi : Bool) (data : Word) {s : State}
    (hs : ConfigOk s) : ConfigOk (access offset write bytes multi data s) := by
  unfold access
  split
  · exact hs.of_keeps (refuseAccess_keepsSettings _ _ _ _ _)
  · split
    · unfold hostWrite
      split
      · exact hostWriteReg_configOk _ data hs
      · exact hs
    · exact hs.of_keeps (hostRead_keepsSettings _ _)

/-! ### Presets keep the settings legal -/

theorem applyPairs_configOk (ps : List (Word × Word)) {s : State} (hs : ConfigOk s) : ConfigOk (applyPairs ps s).1 := by
  induction ps generalizing s with
  | nil => exact hs
  | cons p ps ih =>
    refine ih (s := (applyPair p s).1) ?_
    unfold applyPair
    split
    · exact writeReg_configOk false p.2 hs _
    · exact hs

theorem judgeList_configOk (ws : List Word) {s : State} (hs : ConfigOk s) : ConfigOk (judgeList ws s).1 := by
  unfold judgeList
  split
  · exact hs
  · exact applyPairs_configOk _ hs

theorem operationEnds_configOk (word : Nat) (data : Word) {s : State} (hs : ConfigOk s) :
    ConfigOk (operationEnds word data s) := by
  unfold operationEnds
  split
  case h_2 =>
    split
    · exact hs
    · exact (judgeList_configOk _ hs).of_keeps (endBoot_keepsSettings _ _)
  case h_5 =>
    split
    · exact hs
    · exact (judgeList_configOk _ hs).of_keeps (endReload_keepsSettings _ _)
  case h_1 => exact hs.of_keeps (by split <;> simp [endIdentity])
  case h_3 | h_4 => exact hs.of_keeps (endStoreWord_keepsSettings _ _ _)
  all_goals exact hs

theorem opDone_configOk (data : Word) {s : State} (hs : ConfigOk s) : ConfigOk (opDone data s) := by
  unfold opDone
  split
  · split
    · exact operationEnds_configOk _ data hs
    · exact hs
  · exact hs

/-! ### Every step -/

theorem reset_configOk : ConfigOk State.reset := by
  unfold ConfigOk
  decide

theorem tick_keepsSettings (s : State) : KeepsSettings (tick s) s := by
  have advanced (u : State) : KeepsSettings (advanceTimers u) u := by
    refine ⟨?_, mapVec_mapVec_eq fun _ => rfl, mapVec_mapVec_eq fun _ => rfl, rfl⟩
    change mapVec Lane.settings (if u.ctl.resetBusy then u.lanes else mapVec Lane.countTick u.lanes) = _
    split
    · rfl
    · exact mapVec_mapVec_eq countTick_settings
  exact (advanced _).trans ((evaluate_keepsSettings _).trans (passTo_keepsSettings _ s))

theorem arrive_keepsSettings (c : Instr) (s : State) : KeepsSettings (arrive c s) s := by
  have passed : KeepsSettings (arrive c s) (tickFor c s) := passTo_keepsSettings _ _
  refine passed.trans ?_
  unfold tickFor
  split
  · exact .refl s
  · exact tick_keepsSettings s

/-- A command in its turn keeps the settings legal: a host write, a preset and a reset by the lemma of its own, any
other because it keeps the settings. -/
theorem exec_configOk (i : Instr) {s : State} (hs : ConfigOk (arrive i s)) :
    ∃ t, exec i s = .next t ∧ ConfigOk t := by
  cases i with
  | powerOnReset | hostReset => exact ⟨_, rfl, reset_configOk⟩
  | storeOperationDone => exact ⟨_, rfl, opDone_configOk _ hs⟩
  | accessError | registerWrite => exact ⟨_, rfl, access_configOk _ _ _ _ _ hs⟩
  | deviceReset | laneConfigWrite | laneEnable | laneDisable | linjWrite | tgcfgWrite | rpostWrite
  | routeConfigWrite | windowWrite | crbaseWrite | completionRingEnable | completionRingDisable | crconsWrite
  | bshedWrite | bstatWrite | evpop | complClear | cmpmodWrite | commandIssue =>
    exact ⟨_, rfl, hostWriteReg_configOk _ _ hs⟩
  | syncEdge => exact ⟨_, rfl, hs.of_keeps (sampleSync_keepsSettings _ _)⟩
  | syncMissing => exact ⟨_, rfl, hs.of_keeps (syncMissingAt_keepsSettings _)⟩
  | acceptedTransition input level =>
    cases input with
    | sync => exact ⟨_, rfl, hs.of_keeps (sampleSync_keepsSettings _ _)⟩
    | trig n => exact ⟨_, rfl, hs.of_keeps (sampleTrigger_keepsSettings n level _)⟩
  | nop | matchWrite | laneResync | counterSnapshot | epochLoadNow | storeRead | storeWrite | storeLock
  | storeReload | quiesce | unquiesce =>
    exact ⟨_, rfl, hs.of_keeps (runCmd_keepsSettings fun c => by simp [runNop, runEpochLoad, loadEpoch])⟩
  | routeArm | routeStart | routeStop | routeAbort | routeResume | routeFlush =>
    exact ⟨_, rfl, hs.of_keeps (runCmd_keepsSettings fun c => runRouteCmd_keepsSettings (fun r => by simp) c)⟩
  | descriptorFetch | bufferOpen | recordPlace | payloadWrite | lingerExpiry | bufferCloseStop
  | bufferCloseQuiesce | completionEntry | cancelEntry | backlogDrain =>
    exact ⟨_, rfl, hs.of_keeps (engineStep_keepsSettings (by simp))⟩
  | routeDrained | routeAbortDone | quiesced =>
    exact ⟨_, rfl, hs.of_keeps (engineStep_keepsSettings (.ite (by simp)))⟩
  | interruptMessage => exact ⟨_, rfl, hs.of_keeps (by dsimp only; split <;> simp)⟩
  | _ => exact ⟨_, rfl, hs.of_keeps (by simp)⟩

/-- Settles O9: the end of a tick keeps the settings, and a command keeps them legal (`exec_configOk`). -/
theorem stepKeepsFieldsLegal : Obligations.StepKeepsFieldsLegal := by
  intro s t hs hstep
  unfold step at hstep
  split at hstep
  · cases hstep
    exact hs.of_keeps (tick_keepsSettings s)
  · rename_i c rest _
    have turn : ConfigOk (arrive c { s with pending := rest }) :=
      ConfigOk.of_keeps (s := { s with pending := rest }) hs (arrive_keepsSettings c _)
    obtain ⟨u, hexec, hu⟩ := exec_configOk c turn
    rw [hstep] at hexec
    cases hexec
    exact hu

end Sys2Proof.Machine
end

section
/-! SUPPORT. The SYNC watchdog and the periodic tick (R34, R134, R136): the statement O34. -/

namespace Sys2Proof.Machine

/-- A SYNC that is missing is reported while it was present (R134). -/
theorem syncMissingAt_eq {s : State} (h : 2 ^ 27 ≤ s.tb.wdog) :
    syncMissingAt s
      = if s.tb.present then
          { s with
            tb := { s.tb with present := false }
            ev := (post 0x72 0xFF (loWord s.tb.syncCap) (hiWord s.tb.syncCap) s).ev }
        else s := by
  have limit : Config.syncLimit ≤ s.tb.wdog := h
  unfold syncMissingAt
  simp only [limit, true_and]
  rfl

/-- The periodic tick falls when the low 22 bits of the counter are 0 (R136). -/
theorem tickDue_iff (s : State) :
    tickDue s = true ↔ s.tb.ref.extractLsb' 0 22 = 0#22 ∧ s.ctl.resetTick = false := by
  have low : s.tb.ref.toNat % 2 ^ 22 = 0 ↔ s.tb.ref.extractLsb' 0 22 = 0#22 := by
    rw [← BitVec.toNat_inj, BitVec.extractLsb'_toNat]
    rfl
  simp only [tickDue, Bool.and_eq_true, beq_iff_eq, Bool.not_eq_true', low]

/-- Settles O34: by `syncMissingAt_eq` and `tickDue_iff`. -/
theorem syncMissingAndPeriodicTick : Obligations.SyncMissingAndPeriodicTick := by
  refine ⟨fun s hlimit => ?missing, fun s => ⟨fun hlow hreset => ?tick, fun hnot => ?noTick⟩⟩
  case missing =>
    have act : Acts .syncMissing s (syncMissingAt s) := acts_inTurn (fun _ => rfl) s
    rw [syncMissingAt_eq hlimit] at act
    exact ⟨fun hpresent => by rwa [if_pos hpresent] at act, fun habsent => by rwa [habsent] at act⟩
  case tick =>
    have act : Acts .periodicTick s (periodicTickAt s) := acts_inTurn (fun _ => rfl) s
    rwa [periodicTickAt, if_pos ((tickDue_iff s).mpr ⟨hlow, hreset⟩)] at act
  case noTick =>
    have act : Acts .periodicTick s (periodicTickAt s) := acts_inTurn (fun _ => rfl) s
    have notDue : ¬tickDue s = true := by
      rw [tickDue_iff]
      rintro ⟨low, reset⟩
      exact hnot.elim (· low) (by simp [reset])
    rwa [periodicTickAt, if_neg notDue] at act

end Sys2Proof.Machine
end

section
/-! SUPPORT. Lane enable and its check, disable, clock loss and restoration, the inject FIFO and sampled bits
(R20, R24 to R35): the statements O25, O26 and O27. -/

namespace Sys2Proof.Machine

/-! ### Enable (R24, R25) -/

/-- A lane starts (R25): what a cold entry to SEARCH at enable gives it. -/
theorem start_eq (l : Lane) :
    l.start =
      { l with
        st := .search, pol := !l.inject && l.polMode == 2, tally := 0, wdog := 0, fifo := [], feed := none, hist := 0
        histLen := 0, cmpDue := false, verifyCnt := 0, missCnt := 0, dwell := 0, dwellEnd := false, asm := none
        frame := none } := rfl

/-- An LCTL write with ENABLE = 1 of an OFF lane sets its fields and runs the check (R23, R24). -/
theorem writeLctl_enable {n : Fin 4} {s : State} {data : Word} (hoff : (s.lane n).st = .off)
    (hen : data.getLsbD 0 = true) (report : Bool) :
    writeLaneReg n .lctl data report s
      = enableLane n report (s.setLane n { s.lane n with lctl := laneRegValue .lctl (s.lane n).lctl data }) := by
  unfold writeLaneReg
  dsimp only
  rw [if_pos hoff, if_pos hen]
  rfl

/-- A lane that passes the check starts. -/
theorem enableLane_pass {n : Fin 4} {s : State} {l : Lane} (h : l.checkCode = 0) (report : Bool) :
    enableLane n report (s.setLane n l) = (s.setLane n ({ l with lastChk := 0 } : Lane).start, true) := by
  unfold enableLane
  simp only [lane_setLane, State.modLane, setLane_setLane, h, if_true]
  rfl

/-- A lane that fails it stays OFF with the code, which is told. -/
theorem enableLane_fail {n : Fin 4} {s : State} {l : Lane} (h : l.checkCode ≠ 0) (report : Bool) :
    enableLane n report (s.setLane n l)
      = (let u := s.setLane n { l with lastChk := BitVec.ofNat 3 l.checkCode }
         if report then
           { u with ev := (post 0x93 (srcIdx n) (BitVec.ofNat 32 l.checkCode) (BitVec.ofNat 32 l.hdrExtent) s).ev }
         else u, false) := by
  unfold enableLane
  simp only [lane_setLane, State.modLane, setLane_setLane, if_neg h]
  rfl

/-- The header extent is the least byte count that holds every header field present (R20). -/
theorem hdrExtent_le_iff (l : Lane) (h : Nat) :
    l.hdrExtent ≤ h ↔ fieldOf l.lhdr 0 4 < h ∧ (fieldOf l.lhdr 8 2 ≠ 0 → fieldOf l.lhdr 4 4 + fieldOf l.lhdr 8 2 ≤ h)
      ∧ (fieldOf l.lhdr 16 2 ≠ 0 → fieldOf l.lhdr 12 4 + fieldOf l.lhdr 16 2 ≤ h) := by
  have part (w o : Nat) : (if w = 0 then 0 else o + w) ≤ h ↔ (w ≠ 0 → o + w ≤ h) := by
    split
    next hw => simp [hw]
    next hw => simp [hw]
  rw [Lane.hdrExtent, max_le_iff, max_le_iff]
  exact and_congr Nat.succ_le_iff (and_congr (part _ _) (part _ _))

/-- Settles O25: the write by `enableLane_pass` and `enableLane_fail`, the extent by `hdrExtent_le_iff`. -/
theorem laneEnableRunsTheCheck : Obligations.LaneEnableRunsTheCheck := by
  refine ⟨fun n data s hload hbusy hoff hen => ?enable, fun l => ⟨?extent, rfl⟩⟩
  case enable =>
    have act : Acts (.laneEnable n data) s (hostWriteReg (.lane n .lctl) data s) := acts_inTurn (fun _ => rfl) s
    rw [hostWriteReg_writable hload hbusy, writeReg, writeLctl_enable hoff hen] at act
    intro l
    refine ⟨fun hpass => ?_, fun hfail => ?_⟩
    · rwa [enableLane_pass hpass, start_eq] at act
    · rwa [enableLane_fail hfail] at act
  case extent =>
    exact ⟨(hdrExtent_le_iff l l.hdrExtent).mp le_rfl, fun h => (hdrExtent_le_iff l h).mpr⟩

/-! ### Disable, clock loss and restoration (R26 to R28, R50) -/

/-- What a lane reads that is changed once its frame is abandoned, and what that leaves alone: the frame's blocks
join the free list, and without a frame no event is told. -/
theorem abandon_modLane_reads (n : Fin 4) (f : Lane → Lane) (s : State) :
    let t := (abandon n s).modLane n f
    t.lane n = f { (s.lane n).countAbandoned with asm := none, frame := none }
      ∧ (∀ m, m ≠ n → t.lane m = s.lane m) ∧ t.buf.free = s.buf.free ++ (s.lane n).blocks ∧ t.buf.mem = s.buf.mem
      ∧ t.routes = s.routes ∧ t.table = s.table ∧ ((s.lane n).frame = none → t.ev = s.ev) := by
  obtain ⟨sh, ev, trigs, h, hev⟩ := abandon_frame n s
  intro t
  have lanes (m : Fin 4) : (abandon n s).lane m
      = (s.setLane n { (s.lane n).countAbandoned with asm := none, frame := none }).lane m := by
    rw [h]
    rfl
  have units : (abandon n s).buf.free = s.buf.free ++ (s.lane n).blocks ∧ (abandon n s).buf.mem = s.buf.mem
      ∧ (abandon n s).routes = s.routes ∧ (abandon n s).table = s.table ∧ (abandon n s).ev = ev := by
    rw [h]
    exact ⟨rfl, rfl, rfl, rfl, rfl⟩
  obtain ⟨free, mem, routes, table, told⟩ := units
  refine ⟨?_, fun m hm => ?_, free, mem, routes, table, fun hnone => told.trans (hev (.inr fun t => by simp [hnone]))⟩
  · exact (lane_modLane _ n f).trans (congrArg f ((lanes n).trans (lane_setLane s n _)))
  · exact (lane_modLane_ne _ f hm).trans ((lanes m).trans (lane_setLane_ne s _ hm))

/-- An LCTL write with ENABLE = 0 of an enabled lane tells a change of its fields and disables it (R22, R26). -/
theorem writeLctl_disable {n : Fin 4} {s : State} {data : Word} (hon : (s.lane n).st ≠ .off)
    (hdis : data.getLsbD 0 = false) :
    ∃ ev, (writeLaneReg n .lctl data true s).1 = disableLane n { s with ev := ev } := by
  rw [writeLctl_on hon, hdis]
  exact ⟨_, rfl⟩

/-- ABANDONED counts a frame that its route's abort has not withdrawn (R50, R101). -/
theorem countAbandoned_abandoned (l : Lane) :
    l.countAbandoned.counter .abandoned
      = l.counter .abandoned
        + (match l.frame with
           | some f => if f.fate = .withdrawn then 0 else 1
           | none => 0) := by
  unfold Lane.countAbandoned
  cases l.frame with
  | none => simp
  | some f =>
    obtain ⟨stamp, mask, time, inv, coast, fate⟩ := f
    cases fate with
    | withdrawn => simp
    | dropped => simp
    | undecided | admitted =>
      dsimp only
      split <;> simp [counter_count_ne]

/-- CLOCK_LOST of a receiving line-fed lane whose watchdog has counted its limit (R27). -/
theorem clockLostAt_due {n : Fin 4} {s : State} (hbusy : s.ctl.resetBusy = false) (hoff : (s.lane n).st ≠ .off)
    (hclock : (s.lane n).st ≠ .noclock) (hline : (s.lane n).inject = false) (hlimit : 4096 ≤ (s.lane n).wdog) :
    clockLostAt n s
      = post 0x23 (srcIdx n) (BitVec.ofNat 32 (laneCode (s.lane n).st)) 0
          ((abandon n s).modLane n (fun l => { l.toSearch true with st := .noclock, tally := 0 })) := by
  have dead : (s.lane n).clockDead = true := by
    have limit : Config.clockLimit ≤ (s.lane n).wdog := hlimit
    simp [Lane.clockDead, Lane.receiving, hoff, hclock, hline, limit]
  unfold clockLostAt
  rw [if_pos ⟨dead, hbusy⟩]

/-- Settles O26: what a disable and a clock loss change is `abandon_modLane_reads`. -/
theorem laneDisableAndClockLoss : Obligations.LaneDisableAndClockLoss := by
  refine ⟨fun n data s hload hbusy hon hdis => ?disable, fun n s hbusy => ⟨?lost, fun hclock => ?restored⟩⟩
  case disable =>
    have act : Acts (.laneDisable n data) s (hostWriteReg (.lane n .lctl) data s) := acts_inTurn (fun _ => rfl) s
    obtain ⟨ev, written⟩ := writeLctl_disable hon hdis
    rw [hostWriteReg_writable hload hbusy, writeReg, written] at act
    let told : State := { s with ev := ev }
    obtain ⟨lane, others, free, mem, routes, table, -⟩ := abandon_modLane_reads n
      (fun l => { (l.toSearch true).clearMarks with st := .off, fifo := [], feed := none, wdog := 0, tally := 0 }) told
    obtain ⟨-, -, tb⟩ := disableLane_keepsClock n told
    obtain ⟨-, eng, -, cmd, store, ctl, bus, -⟩ := disableLane_keepsUnits n told
    have own : (disableLane n told).lane n = _ := lane
    refine ⟨disableLane n told, act, ?_⟩
    rw [own]
    exact ⟨rfl, rfl, rfl, rfl, rfl, rfl, fun reg => countAbandoned_reg _ reg, countAbandoned_abandoned _, free, mem,
      others, routes, table, eng, tb, cmd, store, ctl, bus⟩
  case lost =>
    intro hoff hclock hline hlimit
    have act : Acts (.clockLost n) s (clockLostAt n s) := acts_inTurn (fun _ => rfl) s
    rw [clockLostAt_due hbusy hoff hclock hline hlimit] at act
    obtain ⟨lane, others, free, mem, routes, -, ev⟩ := abandon_modLane_reads n
      (fun l => { l.toSearch true with st := .noclock, tally := 0 }) s
    obtain ⟨-, -, tb⟩ := abandon_keepsClock n s
    refine ⟨_, act, ?_⟩
    rw [post_lane, lane]
    exact ⟨rfl, rfl, rfl, free, mem, others, routes, fun hnone =>
      post_ev_congr _ _ _ _ (ev hnone) (congrArg Timebase.ref tb)⟩
  case restored =>
    have act : Acts (.clockRestored n) s (clockRestoredAt n s) := acts_inTurn (fun _ => rfl) s
    rwa [clockRestoredAt, if_pos ⟨hclock, hbusy⟩] at act

/-! ### LINJ and edges that give no bit (R27, R29 to R32) -/

/-- A LINJ write to an enabled INJECT lane: the bytes that fit are taken, and 0x26 counts those that do not (R31). -/
theorem writeLinj_eq {n : Fin 4} {s : State} (hon : (s.lane n).st ≠ .off) (hinject : (s.lane n).inject = true)
    (data : Word) :
    writeLinj n data s =
      (let l := s.lane n
       let room := 16 - l.fifo.length
       let u := s.setLane n { l with fifo := l.fifo ++ (leBytes l.linjc.toNat data.toNat).take room }
       if room < l.linjc.toNat then
         { u with
           ev := (post 0x26 (srcIdx n) (BitVec.ofNat 32 (l.linjc.toNat - room)) (BitVec.ofNat 32 room) s).ev }
       else u) := by
  have room : Config.injectDepth = 16 := rfl
  unfold writeLinj
  simp only [hon, hinject, ne_eq, not_false_eq_true, and_self, if_true, Lane.offered, List.length_take, length_leBytes,
    room]
  by_cases fits : 16 - (s.lane n).fifo.length < (s.lane n).linjc.toNat
  · rw [Nat.min_eq_left fits.le, if_pos fits, if_pos fits]
    rfl
  · rw [Nat.min_eq_right (Nat.not_lt.mp fits), if_neg (lt_irrefl _), if_neg fits]
    rfl

/-- A LINJ write to any other lane does nothing (R31). -/
theorem writeLinj_idle {n : Fin 4} {s : State} (h : (s.lane n).st = .off ∨ (s.lane n).inject = false) (data : Word) :
    writeLinj n data s = s := by
  unfold writeLinj
  dsimp only
  refine if_neg fun both => ?_
  obtain ⟨hon, hinject⟩ := both
  exact h.elim hon (by simp [hinject])

theorem receiving_iff (l : Lane) : l.receiving = true ↔ l.st ≠ .off ∧ l.st ≠ .noclock := by
  simp [Lane.receiving]

/-- An edge of a lane that takes no bits from its clock does nothing (R29, R178). -/
theorem clockEdge_idle {n : Fin 4} {s : State}
    (h : (s.lane n).st = .off ∨ (s.lane n).st = .noclock ∨ (s.lane n).inject = true ∨ s.ctl.resetBusy = true)
    (rising level : Bool) : clockEdge n rising level s = s := by
  unfold clockEdge
  refine if_neg fun due => ?_
  rw [receiving_iff] at due
  obtain ⟨⟨hoff, hclock⟩, hline, hbusy⟩ := due
  rw [hline, hbusy] at h
  simp [hoff, hclock] at h

/-- The edge of a receiving line-fed lane that EDGE does not select restarts the watchdog (R27). -/
theorem clockEdge_inactive {n : Fin 4} {s : State} {rising : Bool} (hoff : (s.lane n).st ≠ .off)
    (hclock : (s.lane n).st ≠ .noclock) (hline : (s.lane n).inject = false) (hbusy : s.ctl.resetBusy = false)
    (hedge : rising = (s.lane n).lctl.getLsbD 1) (level : Bool) :
    clockEdge n rising level s = s.setLane n { s.lane n with wdog := 0 } := by
  have inactive : ((s.modLane n (fun l => { l with wdog := 0 })).lane n).activeEdge rising = false := by
    rw [lane_modLane, hedge]
    exact bne_self_eq_false _
  unfold clockEdge
  rw [if_pos ⟨(receiving_iff _).mpr ⟨hoff, hclock⟩, hline, hbusy⟩]
  simp only [inactive, Bool.false_eq_true, if_false]
  rfl

/-- A lane that feeds no bits, or has none to feed (R32, R178). -/
theorem feedAt_idle {n : Fin 4} {s : State}
    (h : (s.lane n).st = .off ∨ (s.lane n).st = .noclock ∨ (s.lane n).inject = false ∨ s.ctl.resetBusy = true
      ∨ (s.lane n).feed = none ∧ (s.lane n).fifo = []) : feedAt n s = s := by
  unfold feedAt
  split
  next due =>
    rw [receiving_iff] at due
    obtain ⟨⟨hoff, hclock⟩, hinject, hbusy⟩ := due
    rw [hinject, hbusy] at h
    obtain ⟨hfeed, hfifo⟩ : (s.lane n).feed = none ∧ (s.lane n).fifo = [] := by simpa [hoff, hclock] using h
    simp only [hfeed, hfifo]
  next => rfl

/-! ### A bit handed over (R29, R32 to R35) -/

/-- A bit in the history, the tallies and the dwell count (R33 to R35, R44). -/
theorem takeBit_eq (l : Lane) (b : Bool) :
    l.takeBit b =
      (let counts := (l.st = .search ∨ l.st = .verify) ∧ l.dwell ≠ 0xFFFFFFFF#32
       { l with
         hist := ((l.hist <<< 1) ||| (if b then 1 else 0)) &&& maskOf 0 l.syncLen
         histLen := min l.syncLen (l.histLen + 1)
         tally := if l.tally = 7 then 0 else l.tally + 1
         rateTally := if l.tally = 7 then l.rateTally + 1 else l.rateTally
         ctr := if l.tally = 7 then l.ctr.set 0 (l.ctr[0] + 1) else l.ctr
         dwell := if counts then l.dwell + 1 else l.dwell
         dwellEnd := decide (counts ∧ (l.dwell + 1).toNat = l.dwellLimit * 4096) }) := by
  have full : (l.tally + 1 == 8) = decide (l.tally = 7) := by
    rw [Bool.eq_iff_iff]; simp
  have counts : ((l.st == .search || l.st == .verify) && l.dwell != 0xFFFFFFFF#32)
      = decide ((l.st = .search ∨ l.st = .verify) ∧ l.dwell ≠ 0xFFFFFFFF#32) := by
    rw [Bool.eq_iff_iff]; simp
  unfold Lane.takeBit
  dsimp only
  rw [full, counts]
  by_cases hc : (l.st = .search ∨ l.st = .verify) ∧ l.dwell ≠ 0xFFFFFFFF#32
  · by_cases ht : l.tally = 7
    · simp [hc, ht, Lane.count, Lane.counter, laneCtrIdx, beq_eq_decide]
    · simp [hc, ht, beq_eq_decide]
  · by_cases ht : l.tally = 7
    · simp [hc, ht, Lane.count, Lane.counter, laneCtrIdx]
    · simp [hc, ht]

/-- What lane l hands over in the turn of command c: the bit, and the lane without what was handed over (R29, R32). -/
def Lane.Hands (l : Lane) (n : Fin 4) (c : Instr) (m : Lane) (b : Bool) : Prop :=
  let order (k : Nat) : Nat := if l.lctl.getLsbD 2 then k else 7 - k
  l.inject = false
      ∧ (∃ rising level, rising ≠ l.lctl.getLsbD 1 ∧ c = .laneBitSampled n ⟨rising, level⟩
          ∧ m = { l with wdog := 0 } ∧ b = (level ^^ l.pol))
    ∨ l.inject = true ∧ c = .injectBitFeed n
      ∧ ((∃ x rest, l.feed = none ∧ l.fifo = x :: rest ∧ m = { l with fifo := rest, feed := some (x, 1) }
            ∧ b = x.getLsbD (order 0))
        ∨ ∃ x k, l.feed = some (x, k) ∧ k < 8
            ∧ m = { l with feed := if k = 7 then none else some (x, k + 1) } ∧ b = x.getLsbD (order k))

/-- Handing a bit over changes the watchdog, the FIFO and the feed at most. -/
theorem Lane.Hands.lane_eq {l m : Lane} {n : Fin 4} {c : Instr} {b : Bool} (h : l.Hands n c m b) :
    ∃ wdog fifo feed, m = { l with wdog := wdog, fifo := fifo, feed := feed } := by
  obtain ⟨-, rising, level, -, -, rfl, -⟩ | ⟨-, -, ⟨x, rest, -, -, rfl, -⟩ | ⟨x, k, -, -, rfl, -⟩⟩ := h
  · exact ⟨_, _, _, rfl⟩
  · exact ⟨_, _, _, rfl⟩
  · exact ⟨_, _, _, rfl⟩

/-- A bit handed to a lane whose last one is processed (R33 to R35). -/
theorem handBit_quiet {n : Fin 4} {m : Lane} (b : Bool) (s : State) (hq : laneQuiet m = true) :
    handBit n b (s.setLane n m)
      = if m.st = .search then
          s.setLane n { m.takeBit b with cmpDue := min m.syncLen (m.histLen + 1) == m.syncLen }
        else phaseBit n b (s.setLane n (m.takeBit b)) := by
  have settled : settleLane n (s.setLane n m) = s.setLane n m := laneQuiet_settle (by rwa [lane_setLane])
  have st : (m.takeBit b).st = m.st := by rw [takeBit_eq]
  have due : ((m.takeBit b).histLen == (m.takeBit b).syncLen) = (min m.syncLen (m.histLen + 1) == m.syncLen) := by
    rw [takeBit_eq]; rfl
  unfold handBit
  simp only [settled, State.modLane, lane_setLane, setLane_setLane, st, due]

/-- An edge that EDGE selects hands the level over, corrected for polarity (R29). -/
theorem clockEdge_active {n : Fin 4} {s : State} {rising : Bool} (hrec : (s.lane n).receiving = true)
    (hline : (s.lane n).inject = false) (hbusy : s.ctl.resetBusy = false)
    (hedge : rising ≠ (s.lane n).lctl.getLsbD 1) (hq : laneQuiet (s.lane n) = true) (level : Bool) :
    clockEdge n rising level s
      = handBit n (level ^^ (s.lane n).pol) (s.setLane n { s.lane n with wdog := 0 }) := by
  have active : ((s.modLane n (fun l => { l with wdog := 0 })).lane n).activeEdge rising = true := by
    rw [lane_modLane]
    exact bne_iff_ne.mpr hedge
  have settled : settleLane n (s.modLane n (fun l => { l with wdog := 0 }))
      = s.modLane n (fun l => { l with wdog := 0 }) :=
    laneQuiet_settle (by rwa [lane_modLane])
  unfold clockEdge
  rw [if_pos ⟨hrec, hline, hbusy⟩]
  dsimp only
  rw [if_pos active, settled, lane_modLane]
  rfl

/-- A command in which a quiet receiving lane hands a bit over. -/
theorem acts_hands {n : Fin 4} {c : Instr} {m : Lane} {b : Bool} {s : State} (h : (s.lane n).Hands n c m b)
    (hrec : (s.lane n).receiving = true) (hbusy : s.ctl.resetBusy = false) (hq : laneQuiet (s.lane n) = true) :
    Acts c s (handBit n b (s.setLane n m)) := by
  obtain ⟨hline, rising, level, hedge, rfl, rfl, rfl⟩ | ⟨hinject, rfl, fed⟩ := h
  · have act : Acts (.laneBitSampled n ⟨rising, level⟩) s (clockEdge n rising level s) := acts_inTurn (fun _ => rfl) s
    rwa [clockEdge_active hrec hline hbusy hedge hq] at act
  · have act : Acts (.injectBitFeed n) s (feedAt n s) := acts_inTurn (fun _ => rfl) s
    unfold feedAt at act
    rw [if_pos ⟨hrec, hinject, hbusy⟩] at act
    obtain ⟨x, rest, hfeed, hfifo, rfl, rfl⟩ | ⟨x, k, hfeed, hk, rfl, rfl⟩ := fed
    · simp only [hfeed, hfifo] at act
      exact act
    · have more : (if k + 1 < 8 then some (x, k + 1) else none) = (if k = 7 then none else some (x, k + 1)) := by
        by_cases last : k = 7
        · simp [last]
        · rw [if_pos (by omega), if_neg last]
      simp only [hfeed, more] at act
      exact act

/-! ### A bit of the phase in progress (R29, R46, R48, R80) -/

theorem phaseBit_sync {n : Fin 4} {l : Lane} {a : Assembly} (b : Bool) (s : State) (ha : l.asm = some a)
    (hp : a.phase = .sync) :
    phaseBit n b (s.setLane n l) = s.setLane n { l with asm := some { a with nbits := a.nbits + 1 } } := by
  simp only [phaseBit, lane_setLane, ha, hp, State.modLane, setLane_setLane]

/-- A bit that does not complete a body byte. -/
theorem phaseBit_body {n : Fin 4} {l : Lane} {a : Assembly} (b : Bool) (s : State) (ha : l.asm = some a)
    (hp : a.phase = .body) (hn : a.nbits ≠ 7) :
    phaseBit n b (s.setLane n l)
      = s.setLane n { l with asm := some { a with nbits := a.nbits + 1, cur := l.shiftByte a.cur b } } := by
  simp only [phaseBit, lane_setLane, ha, hp, hn, if_false, State.modLane, setLane_setLane]

/-- The assembly once it has taken a whole body byte (R46, R48). -/
def Assembly.takeByte (a : Assembly) (H F : Nat) (v : Byte) : Assembly :=
  { a with
    nbytes := a.nbytes + 1, nbits := 0, cur := 0
    head := if a.nbytes < H then a.head ++ [v] else a.head
    fcs := if a.delay.length < F then a.fcs else crcByte F a.fcs ((a.delay ++ [v]).getD 0 0)
    delay := if a.delay.length < F then a.delay ++ [v] else (a.delay ++ [v]).drop 1 }

/-- The FCS register takes the byte that leaves the delay of F bytes (R48). -/
theorem takeFcs_eq (a : Assembly) (F : Nat) (v : Byte) :
    a.takeFcs F v =
      { a with
        fcs := if a.delay.length < F then a.fcs else crcByte F a.fcs ((a.delay ++ [v]).getD 0 0)
        delay := if a.delay.length < F then a.delay ++ [v] else (a.delay ++ [v]).drop 1 } := by
  obtain ⟨d, ds, hd⟩ : ∃ d ds, a.delay ++ [v] = d :: ds := List.exists_cons_of_ne_nil (by simp)
  have length : a.delay.length = ds.length := by simpa using congrArg List.length hd
  unfold Assembly.takeFcs
  rw [hd, length]
  by_cases h : ds.length < F <;> simp [h]

/-- A bit that completes a body byte: the byte is stored behind the assembly's taking it. -/
theorem phaseBit_byte {n : Fin 4} {l : Lane} {a : Assembly} (b : Bool) (s : State) (ha : l.asm = some a)
    (hp : a.phase = .body) (hn : a.nbits = 7) :
    phaseBit n b (s.setLane n l)
      = storeBody n a.nbytes [l.shiftByte a.cur b]
          (s.setLane n { l with asm := some (a.takeByte l.hdrExtent l.fcsLen (l.shiftByte a.cur b)) }) := by
  simp only [phaseBit, bodyByte, lane_setLane, ha, hp, hn, if_true, State.modLane, setLane_setLane, takeFcs_eq,
    Assembly.takeByte]

/-- Bytes of a frame that is not admitted are not stored (R81). -/
theorem storeBody_notAdmitted {n : Fin 4} {l : Lane} (h : ∀ f k, l.frame = some f → f.fate ≠ .admitted k) (i : Nat)
    (bytes : List Byte) (s : State) : storeBody n i bytes (s.setLane n l) = s.setLane n l := by
  unfold storeBody
  rw [lane_setLane]
  split
  next f a hf ha =>
    split
    next k L hk hL => exact absurd hk (h f k hf)
    next => rfl
  next => rfl

/-- A byte of an admitted frame is stored at its place in the chain unless STRIP_FCS removes it (R80). -/
theorem storeBody_admitted {n : Fin 4} {l : Lane} {f : FrameCtx} {k : Ticket} {a : Assembly} {L : Nat}
    (hf : l.frame = some f) (hk : f.fate = .admitted k) (ha : l.asm = some a) (hL : a.len = some L) (i : Nat) (v : Byte)
    (s : State) :
    storeBody n i [v] (s.setLane n l) =
      { s.setLane n l with
        buf :=
          { s.buf with
            mem :=
              if i < storedLen (s.route k.route) l L then
                s.buf.mem.writeChain k.chain (bodyOffset (s.route k.route) f.marked + i) v
              else s.buf.mem } } := by
  simp only [storeBody, lane_setLane, hf, ha, hk, hL, setLane_route, setLane_buf]
  by_cases stored : i < storedLen (s.route k.route) l L
  · obtain ⟨d, hd⟩ : ∃ d, storedLen (s.route k.route) l L - i = d + 1 :=
      Nat.exists_eq_succ_of_ne_zero (Nat.sub_ne_zero_of_lt stored)
    rw [hd, if_pos stored]
    simp [Memory.writeBytes]
  · rw [Nat.sub_eq_zero_of_le (Nat.not_lt.mp stored), if_neg stored]
    rfl

/-- What buffer memory reads after a byte's write at an offset of a chain. -/
theorem read_writeChain {m : Memory} (hm : m.wf = true) {chain : List Nat} {off addr : Nat}
    (h : chainAddr chain off = some addr) (v : Byte) :
    (m.writeChain chain off v).read addr = v
      ∧ ∀ other, other ≠ addr → (m.writeChain chain off v).read other = m.read other := by
  rw [Memory.writeChain, h]
  exact ⟨read_write_same hm addr v, fun other hne => read_write_ne hm addr v hne⟩

/-- A lane that frames nothing, whose last comparison is made and whose polarity does not flip, is quiet. -/
theorem laneQuiet_of_noAssembly {l : Lane} (ha : l.asm = none) (hc : l.cmpDue = false) (hf : l.flipDue = false) :
    laneQuiet l = true := by
  simp [laneQuiet, Lane.headerDue, Lane.frameEndDue, Lane.positionDue, ha, hc, hf]

/-- A lane inside an expected sync position is quiet. -/
theorem laneQuiet_of_sync {l : Lane} {a : Assembly} (ha : l.asm = some a) (hp : a.phase = .sync)
    (hn : a.nbits < l.syncLen) (hc : l.cmpDue = false) (hf : l.flipDue = false) : laneQuiet l = true := by
  simp [laneQuiet, Lane.headerDue, Lane.frameEndDue, Lane.positionDue, ha, hp, hn, hc, hf]

/-- A lane inside a body is quiet when neither its header extent nor its frame end is due. -/
theorem laneQuiet_of_body {l : Lane} {a : Assembly} (ha : l.asm = some a) (hp : a.phase = .body)
    (hh : l.headerDue = false) (he : l.frameEndDue = false) (hc : l.cmpDue = false) (hf : l.flipDue = false) :
    laneQuiet l = true := by
  simp [laneQuiet, Lane.positionDue, ha, hp, hh, he, hc, hf]

/-- Settles O27: a bit is handed over by `acts_hands` and enters the lane by `takeBit_eq`; what it does in its phase is
`phaseBit_sync`, `phaseBit_body` and `phaseBit_byte`. -/
theorem injectAndSampledBits : Obligations.InjectAndSampledBits := by
  refine ⟨fun n data s hload hbusy => ?linj, fun n rising level s => ?edges, fun n c m b s => ?bits⟩
  case linj =>
    have act : Acts (.linjWrite n data) s (hostWriteReg (.linj n) data s) := acts_inTurn (fun _ => rfl) s
    rw [hostWriteReg_writable hload hbusy, writeReg] at act
    refine ⟨fun hon hinject hfits => ?fits, fun hon hinject hdrops => ?drops, fun hidle => ?idle⟩
    case fits =>
      rw [writeLinj_eq hon hinject] at act
      dsimp only at act
      rwa [if_neg (Nat.not_lt.mpr hfits)] at act
    case drops =>
      rw [writeLinj_eq hon hinject] at act
      dsimp only at act
      rwa [if_pos hdrops] at act
    case idle => rwa [writeLinj_idle hidle] at act
  case edges =>
    have edge : Acts (.laneBitSampled n ⟨rising, level⟩) s (clockEdge n rising level s) := acts_inTurn (fun _ => rfl) s
    have feed : Acts (.injectBitFeed n) s (feedAt n s) := acts_inTurn (fun _ => rfl) s
    refine ⟨fun hoff hclock hline hbusy hedge => ?_, fun hidle => ?_, fun hidle => ?_⟩
    · rwa [clockEdge_inactive hoff hclock hline hbusy hedge] at edge
    · rwa [clockEdge_idle hidle] at edge
    · rwa [feedAt_idle hidle] at feed
  case bits =>
    intro l S order hands counts next hhands hbusy hcmp hflip
    have handed : l.Hands n c m b := hhands
    obtain ⟨wdog, fifo, feed, hm⟩ := handed.lane_eq
    have act (hoff : l.st ≠ .off) (hclock : l.st ≠ .noclock) (hq : laneQuiet l = true) :
        Acts c s
          (if l.st = .search then s.setLane n { next with cmpDue := min S (l.histLen + 1) == S }
            else phaseBit n b (s.setLane n next)) := by
      have act := acts_hands handed ((receiving_iff l).mpr ⟨hoff, hclock⟩) hbusy hq
      subst hm
      rwa [handBit_quiet (m := { l with wdog := wdog, fifo := fifo, feed := feed }) b s hq, takeBit_eq] at act
    have frame : next.frame = l.frame := by subst hm; rfl
    have asm : next.asm = l.asm := by subst hm; rfl
    refine ⟨fun hsearch ha => ?search, fun a hst ha => ?framing⟩
    case search =>
      have act := act (by simp [hsearch]) (by simp [hsearch]) (laneQuiet_of_noAssembly ha hcmp hflip)
      rwa [if_pos hsearch] at act
    case framing =>
      have act (hq : laneQuiet l = true) : Acts c s (phaseBit n b (s.setLane n next)) := by
        have framing : l.st ≠ .off ∧ l.st ≠ .noclock ∧ l.st ≠ .search := by
          rcases hst with h | h | h <;> simp [h]
        obtain ⟨hoff, hclock, hsearch⟩ := framing
        have act := act hoff hclock hq
        rwa [if_neg hsearch] at act
      rw [← asm] at ha
      refine ⟨fun hp hn => ?sync, fun hp hh he => ?body⟩
      case sync =>
        have act := act (laneQuiet_of_sync (asm ▸ ha) hp hn hcmp hflip)
        rwa [phaseBit_sync b s ha hp] at act
      case body =>
        have act := act (laneQuiet_of_body (asm ▸ ha) hp hh he hcmp hflip)
        intro cur F taken
        have shifted : next.shiftByte a.cur b = cur := by subst hm; rfl
        have took : a.takeByte next.hdrExtent next.fcsLen cur = taken := by subst hm; rfl
        refine ⟨fun hn => ?bit, fun hn hnot => ?dropped, fun f k L hn hf hk hL hmem => ?stored⟩
        case bit => rwa [phaseBit_body b s ha hp hn, shifted] at act
        case dropped =>
          rwa [phaseBit_byte b s ha hp hn, shifted, took,
            storeBody_notAdmitted (l := { next with asm := some taken }) (frame ▸ hnot)] at act
        case stored =>
          intro x at_ stored
          rw [phaseBit_byte b s ha hp hn, shifted, took,
            storeBody_admitted (l := { next with asm := some taken }) (frame.trans hf) hk rfl hL] at act
          have len : storedLen x { next with asm := some taken } L = stored := by subst hm; rfl
          have place : bodyOffset x f.marked + a.nbytes = at_ := rfl
          rw [len, place] at act
          refine ⟨_, act, rfl, fun hnone => ?_, fun addr hlt haddr => ?_⟩
          · dsimp only
            split
            next hlt =>
              have none := hnone.resolve_left (Nat.not_le.mpr hlt)
              rw [Memory.writeChain, none]
            next => rfl
          · dsimp only
            rw [if_pos hlt]
            exact read_writeChain hmem haddr cur

end Sys2Proof.Machine
end

section
/-! SUPPORT. Device reset (R177, TABLE 12-1): the statement O17. -/

namespace Sys2Proof.Machine

/-- A DEVCTL write with RESET = 1 sets the RW fields and resets the datapath (R11, R17, R154). -/
theorem writeDevctl_reset {data : Word} (h : data.getLsbD 31 = true) (s : State) :
    writeDevctl data true s
      = deviceReset
          { s with
            host :=
              { s.host with
                masterEn := data.getLsbD 0, intMaster := data.getLsbD 1, intMode := data.getLsbD 2 }
            irq := { s.irq with held := s.irq.held && data.getLsbD 2, intl := s.irq.intl && !data.getLsbD 2 } } := by
  unfold writeDevctl
  dsimp only
  rw [h, Bool.true_and, if_pos rfl]

theorem deviceReset_lane (n : Fin 4) (s : State) : (deviceReset s).lane n = (s.lane n).deviceReset :=
  getElem_mapVec _ _ _ _

theorem deviceReset_entry (i : Fin 32) (s : State) : (deviceReset s).entry i = (s.entry i).deviceReset :=
  getElem_mapVec _ _ _ _

theorem deviceReset_route (r : Fin 16) (s : State) : (deviceReset s).route r = (s.route r).deviceReset :=
  getElem_mapVec _ _ _ _

theorem deviceReset_trig (n : Fin 4) (s : State) : (deviceReset s).trig n = (s.trig n).deviceReset :=
  getElem_mapVec _ _ _ _

/-- A device reset leaves an enabled lane in SEARCH with nothing received and keeps its configuration (R30, R52). -/
theorem lane_deviceReset_reads (l : Lane) :
    l.deviceReset.st = (if l.st = .off then .off else .search) ∧ l.deviceReset.frame = none
      ∧ l.deviceReset.fifo = [] ∧ l.deviceReset.marks = Vector.replicate 4 none
      ∧ l.deviceReset.ctr = Vector.replicate 8 0 ∧ l.deviceReset.lrate = 0
      ∧ (∀ reg, l.deviceReset.reg reg = l.reg reg) ∧ l.deviceReset.linjc = l.linjc
      ∧ l.deviceReset.lastChk = l.lastChk ∧ l.deviceReset.feed = none ∧ l.deviceReset.asm = none
      ∧ l.deviceReset.rateTally = 0 ∧ l.deviceReset.tally = 0 ∧ l.deviceReset.histLen = 0 ∧ l.deviceReset.dwell = 0
      ∧ (l.st ≠ .off → l.deviceReset.pol = (!l.inject && l.polMode == 2)) :=
  ⟨rfl, rfl, rfl, rfl, rfl, rfl, fun reg => by cases reg <;> rfl, rfl, rfl, rfl, rfl, rfl, rfl, rfl, rfl,
    fun hon => if_neg hon⟩

/-- A device reset leaves a route DISABLED and empty and keeps its configuration and RCSEL (R107). -/
theorem route_deviceReset_reads (r : Route) :
    r.deviceReset.st = .disabled ∧ r.deviceReset.queue = [] ∧ r.deviceReset.cache = [] ∧ r.deviceReset.buf = none
      ∧ r.deviceReset.read = none ∧ r.deviceReset.rpost = 0 ∧ r.deviceReset.rfetch = 0 ∧ r.deviceReset.rdone = 0
      ∧ r.deviceReset.ctr = Vector.replicate 12 0 ∧ r.deviceReset.serial = 0 ∧ r.deviceReset.rbcnt = 0
      ∧ r.deviceReset.rcsel = r.rcsel ∧ ∀ reg, r.deviceReset.reg reg = r.reg reg :=
  ⟨rfl, rfl, rfl, rfl, rfl, rfl, rfl, rfl, rfl, rfl, rfl, rfl, fun reg => by cases reg <;> rfl⟩

/-- The FLOW state of a line evaluated with no block held (R143; log entry 15). -/
theorem evalFlow_zero (t : Trig) : t.evalFlow 0 = { t with flow := decide (0 < t.offLevel) } := by
  unfold Trig.evalFlow
  by_cases h : t.offLevel = 0
  · simp [h]
  · simp [h, Nat.pos_of_ne_zero h]

/-- A device reset clears a line's latches and pulse, evaluates a FLOW output and keeps the rest (R143, R144). -/
theorem trig_deviceReset_eq (t : Trig) :
    t.deviceReset =
      { t with
        flag := false, flagNow := false, edges := 0, time := 0, shadow := 0, pulse := 0, pulseFresh := false
        flow := if t.out = true ∧ t.omode = 2 then decide (0 < t.offLevel) else t.flow } := by
  unfold Trig.deviceReset
  dsimp only
  by_cases h : t.out = true ∧ t.omode = 2
  · have flows : t.flowing = true := (flowing_iff t).mpr h
    rw [if_pos h]
    exact (if_pos flows).trans (evalFlow_zero _)
  · have still : ¬t.flowing = true := mt (flowing_iff t).mp h
    rw [if_neg h]
    exact if_neg still

/-- Settles O17: the units one by one, lanes, entries, routes and lines by their own reset. -/
theorem deviceResetClearsTheDatapath : Obligations.DeviceResetClearsTheDatapath := by
  intro data s hload hbusy hreset
  have act : Acts (.deviceReset data) s (hostWriteReg .devctl data s) := acts_inTurn (fun _ => rfl) s
  rw [hostWriteReg_writable hload hbusy, writeReg, writeDevctl_reset hreset] at act
  refine ⟨_, act, rfl, rfl, fun n => ?lane, fun i => ?entry, rfl, rfl, rfl, rfl, rfl, rfl, fun r => ?route, rfl, rfl,
    fun n => ?line, rfl, rfl, rfl, rfl, rfl, rfl, rfl, rfl, rfl, rfl, rfl, rfl, rfl, rfl, rfl, rfl⟩
  case lane =>
    rw [deviceReset_lane]
    exact lane_deviceReset_reads (s.lane n)
  case entry => rw [deviceReset_entry]; rfl
  case route =>
    rw [deviceReset_route]
    exact route_deviceReset_reads (s.route r)
  case line =>
    rw [deviceReset_trig, trig_deviceReset_eq]
    exact ⟨rfl, rfl, rfl, rfl, rfl, rfl, rfl, rfl, rfl, rfl, rfl⟩

end Sys2Proof.Machine
end

section
/-! SUPPORT. Loads and presets (R169 to R174): what ends a load, what one pair does, and the statement O20. -/

namespace Sys2Proof.Machine

/-! ### What a silent write does (R171) -/

/-- Disabling a lane that has no frame tells nothing and releases nothing (R26). -/
theorem disableLane_noFrame {n : Fin 4} {s : State} (h : (s.lane n).frame = none) :
    disableLane n s
      = (s.modLane n (fun l => { l with asm := none, frame := none })).modLane n (fun l =>
          { (l.toSearch true).clearMarks with st := .off, fifo := [], feed := none, wdog := 0, tally := 0 }) := by
  unfold disableLane abandon
  dsimp only
  rw [h]

/-- Disabling a lane that has no frame does not look at the events. -/
theorem disableLane_ev {n : Fin 4} {s : State} (h : (s.lane n).frame = none) (ev : Events) :
    disableLane n s = { disableLane n { s with ev := ev } with ev := s.ev } := by
  rw [disableLane_noFrame h, disableLane_noFrame (s := { s with ev := ev }) h]
  rfl

/-- The enable of a lane, less its event. -/
theorem enableLane_silent (n : Fin 4) (l : Lane) (s : State) :
    (enableLane n false (s.setLane n l)).1 = { (enableLane n true (s.setLane n l)).1 with ev := s.ev } := by
  by_cases h : l.checkCode = 0
  · rw [enableLane_pass h, enableLane_pass h]
    rfl
  · rw [enableLane_fail h, enableLane_fail h]
    rfl

/-- An LCTL write with ENABLE = 0 of an OFF lane is accepted. -/
theorem writeLctl_off_accepted {n : Fin 4} {s : State} {data : Word} (hoff : (s.lane n).st = .off)
    (hdis : data.getLsbD 0 = false) (report : Bool) : (writeLaneReg n .lctl data report s).2 = true := by
  unfold writeLaneReg
  dsimp only
  rw [if_pos hoff, hdis]
  rfl

/-- A silent LCTL write of an enabled lane disables it or does nothing; it counts as applied if it would change no
field. -/
theorem writeLctl_on_silent {n : Fin 4} {s : State} (hon : (s.lane n).st ≠ .off) (data : Word) :
    writeLaneReg n .lctl data false s
      = (if data.getLsbD 0 then s else disableLane n s,
          laneRegValue .lctl (s.lane n).lctl data == (s.lane n).lctl) := by
  unfold writeLaneReg refuseWrite
  dsimp only
  rw [if_neg hon]
  simp only [Bool.false_eq_true, if_false, ite_self]
  rfl

/-- A silent write of a lane without a frame, less its events. -/
theorem writeLaneReg_silent {n : Fin 4} {s : State} (hframe : (s.lane n).frame = none) (reg : LaneReg) (data : Word) :
    (writeLaneReg n reg data false s).1 = { (writeLaneReg n reg data true s).1 with ev := s.ev } := by
  by_cases hreg : reg = .lctl
  · subst hreg
    by_cases hoff : (s.lane n).st = .off
    · cases hen : data.getLsbD 0
      · rw [writeLctl_off hoff hen, writeLctl_off hoff hen]
        rfl
      · rw [writeLctl_enable hoff hen, writeLctl_enable hoff hen]
        exact enableLane_silent n _ s
    · rw [writeLctl_on_silent hoff, writeLctl_on hoff]
      cases data.getLsbD 0
      · exact disableLane_ev hframe _
      · rfl
  · by_cases hoff : (s.lane n).st = .off
    · rw [writeLaneReg_off hreg hoff, writeLaneReg_off hreg hoff]
      rfl
    · rw [writeLaneReg_on hreg hoff, writeLaneReg_on hreg hoff]
      rfl

/-- A TGCFG or TGARG write tells nothing. -/
theorem writeTrig_ev (n : Fin 4) (reg : TrigReg) (data : Word) (s : State) :
    (writeTrig n reg data s).ev = s.ev := by
  cases reg with
  | tgcfg =>
    unfold writeTrig
    dsimp only
    split <;> rfl
  | tgarg => rfl

/-- A silent SHED test, less its event. -/
theorem shedTest_true_silent (s : State) : shedTest false s = { shedTest true s with ev := s.ev } := by
  unfold shedTest
  split <;> rfl

/-- A silent fence window write, less its event. -/
theorem writeWindow_silent (w : Fin 4) (reg : WindowReg) (data : Word) (s : State) :
    (writeWindow w reg data false s).1 = { (writeWindow w reg data true s).1 with ev := s.ev } := by
  unfold writeWindow
  split <;> rfl

/-- A silent CRBASE write, less its event. -/
theorem writeCrbase_silent (h : BaseHalf) (data : Word) (s : State) :
    (writeCrbase h data false s).1 = { (writeCrbase h data true s).1 with ev := s.ev } := by
  unfold writeCrbase
  split <;> rfl

/-- A CRCFG write while every route is DISABLED sets the completion ring alone (R125). -/
theorem writeCrcfg_accepted {s : State} (h : allDisabled s = true) (data : Word) :
    ∃ eng, ∀ report, writeCrcfg data report s = ({ s with eng := eng }, true) := by
  simp only [writeCrcfg, h, if_true]
  split
  · split <;> exact ⟨_, fun _ => rfl⟩
  · exact ⟨_, fun _ => rfl⟩

/-- Any other is refused. -/
theorem writeCrcfg_refused {s : State} (h : allDisabled s = false) (data : Word) (report : Bool) :
    writeCrcfg data report s = (refuseWrite report noSource (regOffset .crcfg) data s, false) := by
  unfold writeCrcfg
  rw [h]
  rfl

/-- A silent CRCFG write, less its event. -/
theorem writeCrcfg_silent (data : Word) (s : State) :
    (writeCrcfg data false s).1 = { (writeCrcfg data true s).1 with ev := s.ev } := by
  cases h : allDisabled s
  · rw [writeCrcfg_refused h, writeCrcfg_refused h]
    rfl
  · obtain ⟨eng, accepted⟩ := writeCrcfg_accepted h data
    rw [accepted, accepted]

/-- A silent write of a route's word, less its event. -/
theorem writeRouteReg_silent (r : Fin 16) (reg : RouteReg) (data : Word) (s : State) :
    (writeRouteReg r reg data false s).1 = { (writeRouteReg r reg data true s).1 with ev := s.ev } := by
  unfold writeRouteReg
  dsimp only
  split <;> rfl

/-- A preset of DEVCTL is the write of its RW fields: no reset begins (TABLE 11-2, R11, R17, R154). -/
theorem writeDevctl_silent (data : Word) (s : State) :
    writeDevctl data false s =
      { s with
        host :=
          { s.host with
            masterEn := data.getLsbD 0, intMaster := data.getLsbD 1, intMode := data.getLsbD 2 }
        irq := { s.irq with held := s.irq.held && data.getLsbD 2, intl := s.irq.intl && !data.getLsbD 2 } } := by
  unfold writeDevctl
  rw [Bool.and_false]
  rfl

/-- A preset write is the host's write of its register, less every event, where no lane has a frame (R171). -/
theorem writeReg_silent {r : Reg} (hp : presettable r = true) {s : State} {v : Word}
    (hframe : ∀ n, (s.lane n).frame = none) (hreset : r = .devctl → v.getLsbD 31 = false) :
    (writeReg false v s r).1 = { (writeReg true v s r).1 with ev := s.ev } := by
  cases r with
  | devctl =>
    change writeDevctl v false s = { writeDevctl v true s with ev := s.ev }
    rw [writeDevctl_silent, writeDevctl_enables (hreset rfl)]
  | lane n reg => exact writeLaneReg_silent (hframe n) reg v
  | trig n reg => exact congrArg (fun ev => { writeTrig n reg v s with ev := ev }) (writeTrig_ev n reg v s)
  | window w reg => exact writeWindow_silent w reg v s
  | bshed => exact shedTest_true_silent _
  | crbase h => exact writeCrbase_silent h v s
  | crcfg => exact writeCrcfg_silent v s
  | route q reg => exact writeRouteReg_silent q reg v s
  | epochLo | epochHi | tbctl | inten | cmpmod | breserve => rfl
  | _ => cases hp

/-- A preset write leaves the command port (TABLE 11-2). -/
theorem writeReg_preset_cmd {r : Reg} (hp : presettable r = true) (v : Word) (s : State) :
    (writeReg false v s r).1.cmd = s.cmd := by
  cases r with
  | devctl =>
    change (writeDevctl v false s).cmd = s.cmd
    rw [writeDevctl_silent]
  | lane n reg =>
    obtain ⟨-, -, -, cmd, -⟩ := writeLaneReg_keepsUnits n reg v false s
    exact cmd
  | trig n reg =>
    obtain ⟨-, -, -, cmd, -⟩ := writeTrig_keepsUnits n reg v s
    exact cmd
  | window w reg =>
    change (writeWindow w reg v false s).1.cmd = s.cmd
    unfold writeWindow
    split <;> rfl
  | bshed =>
    obtain ⟨-, -, -, cmd, -⟩ :=
      shedTest_keepsUnits false { s with buf := { s.buf with bshed := v.extractLsb' 0 14 } }
    exact cmd
  | crbase h =>
    change (writeCrbase h v false s).1.cmd = s.cmd
    unfold writeCrbase
    split <;> rfl
  | crcfg =>
    change (writeCrcfg v false s).1.cmd = s.cmd
    cases h : allDisabled s
    · rw [writeCrcfg_refused h]
      rfl
    · obtain ⟨eng, accepted⟩ := writeCrcfg_accepted h v
      rw [accepted]
  | route q reg =>
    obtain ⟨-, -, -, cmd, -⟩ := writeRouteReg_keepsUnits q reg v false s
    exact cmd
  | epochLo | epochHi | tbctl | inten | cmpmod | breserve => rfl
  | _ => cases hp

/-! ### What counts as applied (R171) -/

/-- An LCTL preset of an OFF lane is applied unless it enables the lane and the check fails (R24, R171). -/
theorem writeLctl_off_ok {n : Fin 4} {s : State} (hoff : (s.lane n).st = .off) (data : Word) :
    (writeLaneReg n .lctl data false s).2
      = (!data.getLsbD 0
          || ({ s.lane n with lctl := laneRegValue .lctl (s.lane n).lctl data } : Lane).checkCode == 0) := by
  cases hen : data.getLsbD 0
  · exact writeLctl_off_accepted hoff hen false
  · rw [writeLctl_enable hoff hen]
    by_cases h : ({ s.lane n with lctl := laneRegValue .lctl (s.lane n).lctl data } : Lane).checkCode = 0
    · rw [enableLane_pass h, h]
      rfl
    · rw [enableLane_fail h, beq_false_of_ne h]
      rfl

/-- An LSYNC, LFMT or LHDR preset is applied to an OFF lane (R22). -/
theorem writeLaneReg_ok {reg : LaneReg} (hreg : reg ≠ .lctl) (n : Fin 4) (data : Word) (s : State) :
    (writeLaneReg n reg data false s).2 = ((s.lane n).st == .off) := by
  by_cases hoff : (s.lane n).st = .off
  · rw [writeLaneReg_off hreg hoff, hoff]
    rfl
  · rw [writeLaneReg_on hreg hoff, beq_false_of_ne hoff]

/-- A fence window's preset is applied while no route that uses the window is active (R114). -/
theorem writeWindow_ok (w : Fin 4) (reg : WindowReg) (data : Word) (report : Bool) (s : State) :
    (writeWindow w reg data report s).2 = windowFree s w := by
  unfold writeWindow
  cases windowFree s w <;> rfl

/-- A CRBASE preset is applied while every route is DISABLED (R125). -/
theorem writeCrbase_ok (h : BaseHalf) (data : Word) (report : Bool) (s : State) :
    (writeCrbase h data report s).2 = allDisabled s := by
  unfold writeCrbase
  cases allDisabled s <;> rfl

/-- A CRCFG preset is applied while every route is DISABLED (R125). -/
theorem writeCrcfg_ok (data : Word) (report : Bool) (s : State) :
    (writeCrcfg data report s).2 = allDisabled s := by
  cases h : allDisabled s
  · rw [writeCrcfg_refused h]
  · obtain ⟨eng, accepted⟩ := writeCrcfg_accepted h data
    rw [accepted]

/-- A preset of a route's word is applied while the route is DISABLED (R90). -/
theorem writeRouteReg_ok (r : Fin 16) (reg : RouteReg) (data : Word) (report : Bool) (s : State) :
    (writeRouteReg r reg data report s).2 = ((s.route r).st == .disabled) := by
  unfold writeRouteReg
  by_cases h : (s.route r).st = .disabled
  · rw [if_pos h, h]
    rfl
  · rw [if_neg h, beq_false_of_ne h]

/-- Whether a preset counts as applied: by the lane's or the route's state, by the window's routes, or always
(R171). -/
def presetApplies (v : Word) (s : State) : Reg → Bool
  | .lane n .lctl =>
    let l := s.lane n
    let new := laneRegValue .lctl l.lctl v
    if l.st = .off then !v.getLsbD 0 || ({ l with lctl := new } : Lane).checkCode == 0 else new == l.lctl
  | .lane n _ => (s.lane n).st == .off
  | .window w _ => decide (∀ q, (s.route q).window = w → (s.route q).st = .disabled)
  | .crbase _ | .crcfg => decide (∀ q, (s.route q).st = .disabled)
  | .route q _ => (s.route q).st == .disabled
  | _ => true

/-- The silent write of a presettable register is accepted when the preset applies. -/
theorem writeReg_preset_ok {r : Reg} (hp : presettable r = true) (v : Word) (s : State) :
    (writeReg false v s r).2 = presetApplies v s r := by
  have disabled : allDisabled s = decide (∀ q, (s.route q).st = .disabled) :=
    Bool.eq_iff_iff.mpr ((allDisabled_iff s).trans decide_eq_true_iff.symm)
  cases r with
  | lane n reg =>
    cases reg with
    | lctl =>
      by_cases hoff : (s.lane n).st = .off
      · exact (writeLctl_off_ok hoff v).trans (if_pos hoff).symm
      · exact (congrArg Prod.snd (writeLctl_on_silent hoff v)).trans (if_neg hoff).symm
    | lsync | lfmt | lhdr => exact writeLaneReg_ok (by decide) n v s
  | window w reg =>
    exact (writeWindow_ok w reg v false s).trans
      (Bool.eq_iff_iff.mpr ((windowFree_iff s w).trans decide_eq_true_iff.symm))
  | crbase h => exact (writeCrbase_ok h v false s).trans disabled
  | crcfg => exact (writeCrcfg_ok v false s).trans disabled
  | route q reg => exact writeRouteReg_ok q reg v false s
  | devctl | epochLo | epochHi | tbctl | inten | cmpmod | bshed | breserve | trig => rfl
  | _ => cases hp

/-! ### The pairs of a list (R171) -/

/-- The pair of a presettable word is the silent write of its register. -/
theorem applyPair_of_presettable {r : Reg} (hp : presettable r = true) {o : Word} (ho : o.toNat = regOffset r)
    (v : Word) (s : State) : applyPair (o, v) s = writeReg false v s r := by
  obtain ⟨aligned, inside⟩ := regAt_bounds (regAt_regOffset r)
  have target : presetTarget o = some r := by
    unfold presetTarget
    rw [ho, if_pos ⟨inside, aligned⟩, regAt_regOffset]
    exact if_pos hp
  simp only [applyPair, target]

/-- The pair of any other word is skipped. -/
theorem applyPair_of_not_presettable {o : Word} (ho : ∀ r, presettable r = true → o.toNat ≠ regOffset r)
    (v : Word) (s : State) : applyPair (o, v) s = (s, false) := by
  have target : presetTarget o = none := by
    unfold presetTarget
    split
    · split
      next r hr => exact if_neg fun hp => ho r hp (regOffset_of_regAt hr).symm
      next => rfl
    · rfl
  simp only [applyPair, target]

/-- One pair leaves the command port. -/
theorem applyPair_cmd (p : Word × Word) (s : State) : (applyPair p s).1.cmd = s.cmd := by
  obtain ⟨o, v⟩ := p
  by_cases h : ∃ r, presettable r = true ∧ o.toNat = regOffset r
  · obtain ⟨r, hp, ho⟩ := h
    rw [applyPair_of_presettable hp ho, writeReg_preset_cmd hp]
  · rw [applyPair_of_not_presettable fun r hp ho => h ⟨r, hp, ho⟩]

/-- A list of pairs leaves the command port. -/
theorem applyPairs_cmd (ps : List (Word × Word)) (s : State) : (applyPairs ps s).1.cmd = s.cmd := by
  induction ps generalizing s with
  | nil => rfl
  | cons p ps ih => exact (ih (applyPair p s).1).trans (applyPair_cmd p s)

/-- Each pair is counted once, as applied or as skipped. -/
theorem applyPairs_counts (ps : List (Word × Word)) (s : State) :
    (applyPairs ps s).2.1 + (applyPairs ps s).2.2 = ps.length := by
  induction ps generalizing s with
  | nil => rfl
  | cons p ps ih =>
    have one (ok : Bool) : bit ok + bit (!ok) = 1 := by cases ok <;> rfl
    calc (applyPairs (p :: ps) s).2.1 + (applyPairs (p :: ps) s).2.2
        = (applyPairs ps (applyPair p s).1).2.1 + bit (applyPair p s).2
            + ((applyPairs ps (applyPair p s).1).2.2 + bit (!(applyPair p s).2)) := rfl
      _ = (p :: ps).length := by
          rw [Nat.add_add_add_comm, ih, one, List.length_cons]

/-! ### The words of TABLE 11-2 -/

/-- The configuration words of the lanes (R18). -/
theorem exists_laneRegOffset (o : Nat) :
    (∃ n reg, laneRegOffset n reg = o) ↔ 0x100 ≤ o ∧ o < 0x200 ∧ o % 64 ∈ [0, 4, 8, 12] := by
  constructor
  · rintro ⟨n, reg, rfl⟩
    cases reg <;> simp only [laneRegOffset, List.mem_cons, List.not_mem_nil] <;> omega
  · rintro ⟨low, high, word⟩
    refine ⟨⟨(o - 0x100) / 64, by omega⟩, ?_⟩
    simp only [List.mem_cons, List.not_mem_nil, or_false] at word
    rcases word with h | h | h | h
    exacts [⟨.lctl, by simp only [laneRegOffset]; omega⟩, ⟨.lsync, by simp only [laneRegOffset]; omega⟩,
      ⟨.lfmt, by simp only [laneRegOffset]; omega⟩, ⟨.lhdr, by simp only [laneRegOffset]; omega⟩]

/-- The configuration words of the trigger lines (R137). -/
theorem exists_trigRegOffset (o : Nat) :
    (∃ n reg, trigRegOffset n reg = o) ↔ 0x200 ≤ o ∧ o < 0x240 ∧ o % 16 ∈ [0, 4] := by
  constructor
  · rintro ⟨n, reg, rfl⟩
    cases reg <;> simp only [trigRegOffset, List.mem_cons, List.not_mem_nil] <;> omega
  · rintro ⟨low, high, word⟩
    refine ⟨⟨(o - 0x200) / 16, by omega⟩, ?_⟩
    simp only [List.mem_cons, List.not_mem_nil, or_false] at word
    rcases word with h | h
    exacts [⟨.tgcfg, by simp only [trigRegOffset]; omega⟩, ⟨.tgarg, by simp only [trigRegOffset]; omega⟩]

/-- The words of the fence windows (R114). -/
theorem exists_windowOffset (o : Nat) :
    (∃ w reg, regOffset (.window w reg) = o) ↔ 0x240 ≤ o ∧ o < 0x280 ∧ o % 4 = 0 := by
  constructor
  · rintro ⟨w, reg, rfl⟩
    cases reg <;> simp only [regOffset] <;> omega
  · rintro ⟨low, high, aligned⟩
    refine ⟨⟨(o - 0x240) / 16, by omega⟩, ?_⟩
    have word : o % 16 = 0 ∨ o % 16 = 4 ∨ o % 16 = 8 ∨ o % 16 = 12 := by omega
    rcases word with h | h | h | h
    exacts [⟨.maskLo, by simp only [regOffset]; omega⟩, ⟨.maskHi, by simp only [regOffset]; omega⟩,
      ⟨.setLo, by simp only [regOffset]; omega⟩, ⟨.setHi, by simp only [regOffset]; omega⟩]

/-- The configuration words of the routes (R88). -/
theorem exists_routeOffset (o : Nat) :
    (∃ q reg, regOffset (.route q reg) = o) ↔ 0x400 ≤ o ∧ o < 0x800 ∧ o % 64 ≤ 24 ∧ o % 4 = 0 := by
  constructor
  · rintro ⟨q, reg, rfl⟩
    cases reg <;> simp only [regOffset] <;> omega
  · rintro ⟨low, high, word, aligned⟩
    refine ⟨⟨(o - 0x400) / 64, by omega⟩, ?_⟩
    have word : o % 64 = 0 ∨ o % 64 = 4 ∨ o % 64 = 8 ∨ o % 64 = 12 ∨ o % 64 = 16 ∨ o % 64 = 20 ∨ o % 64 = 24 := by
      omega
    rcases word with h | h | h | h | h | h | h
    exacts [⟨.rcfg, by simp only [regOffset]; omega⟩, ⟨.rquota, by simp only [regOffset]; omega⟩,
      ⟨.rpretrig, by simp only [regOffset]; omega⟩, ⟨.rbudget, by simp only [regOffset]; omega⟩,
      ⟨.rlinger, by simp only [regOffset]; omega⟩, ⟨.rrbaseLo, by simp only [regOffset]; omega⟩,
      ⟨.rrbaseHi, by simp only [regOffset]; omega⟩]

/-- The presettable words: eleven of their own, and those of the lanes, lines, windows and routes (TABLE 11-2). -/
theorem exists_presettable (o : Nat) :
    (∃ r, presettable r = true ∧ regOffset r = o) ↔
      o ∈ [0x004, 0x018, 0x01C, 0x028, 0x044, 0x04C, 0x284, 0x288, 0x2C0, 0x2C4, 0x2C8]
        ∨ (0x100 ≤ o ∧ o < 0x200 ∧ o % 64 ∈ [0, 4, 8, 12]) ∨ (0x200 ≤ o ∧ o < 0x240 ∧ o % 16 ∈ [0, 4])
        ∨ (0x240 ≤ o ∧ o < 0x280 ∧ o % 4 = 0) ∨ (0x400 ≤ o ∧ o < 0x800 ∧ o % 64 ≤ 24 ∧ o % 4 = 0) := by
  rw [← exists_laneRegOffset, ← exists_trigRegOffset, ← exists_windowOffset, ← exists_routeOffset]
  constructor
  · rintro ⟨r, hp, rfl⟩
    cases r with
    | lane n reg => exact .inr (.inl ⟨n, reg, rfl⟩)
    | trig n reg => exact .inr (.inr (.inl ⟨n, reg, rfl⟩))
    | window w reg => exact .inr (.inr (.inr (.inl ⟨w, reg, rfl⟩)))
    | route q reg => exact .inr (.inr (.inr (.inr ⟨q, reg, rfl⟩)))
    | crbase h => cases h <;> exact .inl (by decide)
    | devctl | epochLo | epochHi | tbctl | inten | cmpmod | bshed | breserve | crcfg => exact .inl (by decide)
    | _ => cases hp
  · rintro (word | ⟨n, reg, rfl⟩ | ⟨n, reg, rfl⟩ | ⟨w, reg, rfl⟩ | ⟨q, reg, rfl⟩)
    · simp only [List.mem_cons, List.not_mem_nil, or_false] at word
      rcases word with rfl | rfl | rfl | rfl | rfl | rfl | rfl | rfl | rfl | rfl | rfl
      exacts [⟨.devctl, rfl, rfl⟩, ⟨.epochLo, rfl, rfl⟩, ⟨.epochHi, rfl, rfl⟩, ⟨.tbctl, rfl, rfl⟩,
        ⟨.inten, rfl, rfl⟩, ⟨.cmpmod, rfl, rfl⟩, ⟨.bshed, rfl, rfl⟩, ⟨.breserve, rfl, rfl⟩,
        ⟨.crbase .lo, rfl, rfl⟩, ⟨.crbase .hi, rfl, rfl⟩, ⟨.crcfg, rfl, rfl⟩]
    · exact ⟨.lane n reg, rfl, rfl⟩
    · exact ⟨.trig n reg, rfl, rfl⟩
    · exact ⟨.window w reg, rfl, rfl⟩
    · exact ⟨.route q reg, rfl, rfl⟩

/-! ### The end of a load (R170, R172, R174) -/

/-- A word of one field at bit 0. -/
theorem packWord_single (v : Nat) : packWord [(v, 0)] = BitVec.ofNat 32 v := by
  simp [packWord]

/-- The pair count of a list is the low byte of its header. -/
theorem pairCount_eq (ws : List Word) : pairCount ws = (ws.getD 0 0).toNat % 256 := by
  simp [pairCount, fieldOf]

/-- The checksum is good when the words sum to 0. -/
theorem checksumGood_eq_false_iff (ws : List Word) : checksumGood ws = false ↔ ws.sum ≠ 0 := by
  rw [checksumGood, List.sum_eq_foldl, beq_eq_false_iff_ne]

/-- Why a preset list is rejected, 0 if it is accepted (R170). -/
def rejectionCode (ws : List Word) : Nat :=
  if (ws.getD 0 0).toNat / 65536 ≠ 0x5052 then 1
  else if 31 < (ws.getD 0 0).toNat % 256 then 2
  else if ws.sum ≠ 0 then 3
  else 0

/-- What the model tests of a list is its code. -/
theorem rejection_eq (ws : List Word) :
    rejection ws = if rejectionCode ws = 0 then none else some (rejectionCode ws) := by
  have magic : fieldOf (ws.getD 0 0) 16 16 = (ws.getD 0 0).toNat / 65536 := by
    have := (ws.getD 0 0).isLt
    unfold fieldOf
    omega
  simp only [rejection, rejectionCode, magic, pairCount_eq, checksumGood_eq_false_iff]
  split_ifs <;> simp_all

/-- A rejected list is not applied. -/
theorem judgeList_rejected {ws : List Word} (h : rejectionCode ws ≠ 0) (s : State) :
    judgeList ws s = (s, .rejected (rejectionCode ws)) := by
  have := (rejection_eq ws).trans (if_neg h)
  simp only [judgeList, this]

/-- An accepted list has its pairs applied. -/
theorem judgeList_accepted {ws : List Word} (h : rejectionCode ws = 0) (s : State) :
    judgeList ws s
      = (let r := applyPairs (takePairs ((ws.getD 0 0).toNat % 256) (ws.drop 1)) s
         (r.1, .applied r.2.1 r.2.2)) := by
  have := (rejection_eq ws).trans (if_pos h)
  simp only [judgeList, this, pairCount_eq]

/-- A store command that holds the port ends with its result and frees the port (R160, R173). -/
theorem endStoreCmd_cons {s : State} {c : Cmd} {rest : List Cmd} (h : s.cmd.fifo = c :: rest) (res : Result)
    (b : Word) :
    endStoreCmd res b s =
      { s with
        ev := (post (resultCause res) c.target c.detail b s).ev
        cmd := { s.cmd with fifo := rest, busy := false } } := by
  simp only [endStoreCmd, h, List.head?_cons, endCmd]
  simp only [post_eq, h, List.drop_one, List.tail_cons]

/-- A STORE_READ or STORE_WRITE ends with its result (R173). -/
theorem endStoreWord_cons {s : State} {c : Cmd} {rest : List Cmd} (h : s.cmd.fifo = c :: rest) (res : Result)
    (b : Word) :
    endStoreWord res b s =
      { s with
        store := { s.store with op := none, job := .idle }
        ev := (post (resultCause res) c.target c.detail b s).ev
        cmd := { s.cmd with fifo := rest, busy := false } } :=
  endStoreCmd_cons (s := { s with store := { s.store with op := none, job := .idle } }) h res b

/-- The result a reload's outcome gives its command (R174). -/
def LoadOutcome.resultCode : LoadOutcome → Byte
  | .unresponsive _ _ => 0x15
  | _ => 0x10

/-- A reload ends with its outcome told, then the command's result (R174). -/
theorem endReload_cons {s : State} {c : Cmd} {rest : List Cmd} (h : s.cmd.fifo = c :: rest) (o : LoadOutcome) :
    endReload o s =
      { recordOutcome o s with
        ev := (post o.resultCode c.target c.detail (BitVec.ofNat 32 o.counts.1) (recordOutcome o s)).ev
        cmd := { s.cmd with fifo := rest, busy := false } } := by
  cases o with
  | applied a k => exact endStoreCmd_cons (s := recordOutcome (.applied a k) s) h _ _
  | rejected code => exact endStoreCmd_cons (s := recordOutcome (.rejected code) s) h _ _
  | unresponsive word phase => exact endStoreCmd_cons (s := recordOutcome (.unresponsive word phase) s) h _ _

/-- A rejection's event and record (R172). -/
theorem recordOutcome_rejected (code : Nat) (s : State) :
    recordOutcome (.rejected code) s =
      { s with
        store := { s.store with last := 2, applied := 0, skipped := 0, op := none, job := .idle }
        ev := (post 0x81 0xFF (BitVec.ofNat 32 code) (BitVec.ofNat 32 (bit s.store.idBad)) s).ev } := by
  rw [← packWord_single (bit s.store.idBad)]
  rfl

/-- A failure's event and record (R172). -/
theorem recordOutcome_unresponsive (word phase : Nat) (s : State) :
    recordOutcome (.unresponsive word phase) s =
      { s with
        store := { s.store with last := 3, applied := 0, skipped := 0, op := none, job := .idle }
        ev := (post 0x82 0xFF (BitVec.ofNat 32 word) (BitVec.ofNat 32 phase) s).ev } := by
  rw [← packWord_single phase]
  rfl

/-- The last read of a preset list ends a boot load with the judgement of the list (R172). -/
theorem operationEnds_boot {s : State} {ws : List Word} (h : s.store.job = .bootPreset ws) (data : Word) :
    operationEnds 127 data s
      = endBoot (judgeList (ws ++ [data]) s).2 (judgeList (ws ++ [data]) s).1 := by
  simp only [operationEnds, h]
  rfl

/-- The last read of a preset list ends a reload with the judgement of the list (R174). -/
theorem operationEnds_reload {s : State} {ws : List Word} (h : s.store.job = .reload ws) (data : Word) :
    operationEnds 127 data s
      = endReload (judgeList (ws ++ [data]) s).2 (judgeList (ws ++ [data]) s).1 := by
  simp only [operationEnds, h]
  rfl

/-- A failure of the identity phase ends the boot load with the identity bad (R170). -/
theorem operationFails_identity {s : State} {ws : List Word} (h : s.store.job = .bootIdentity ws) (word : Nat) :
    operationFails word s =
      { s with
        store :=
          { s.store with idBad := true, last := 3, applied := 0, skipped := 0, op := none, job := .idle }
        ctl := { s.ctl with loading := false }
        ev := (post 0x82 0xFF (BitVec.ofNat 32 word) 0 s).ev } := by
  simp only [operationFails, h, endBoot, recordOutcome_unresponsive]
  rfl

/-- A failure of the preset phase ends the boot load with no preset applied (R172). -/
theorem operationFails_preset {s : State} {ws : List Word} (h : s.store.job = .bootPreset ws) (word : Nat) :
    operationFails word s =
      { s with
        store := { s.store with last := 3, applied := 0, skipped := 0, op := none, job := .idle }
        ctl := { s.ctl with loading := false }
        ev := (post 0x82 0xFF (BitVec.ofNat 32 word) 1 s).ev } := by
  simp only [operationFails, h, endBoot, recordOutcome_unresponsive]
  rfl

/-- A failure of a STORE_READ or STORE_WRITE ends its command (R173). -/
theorem operationFails_command {s : State} (h : s.store.job = .cmdRead ∨ ∃ d, s.store.job = .cmdWrite d)
    (word : Nat) : operationFails word s = endStoreWord .storeFail 0 s := by
  rcases h with h | ⟨d, h⟩ <;> simp only [operationFails, h]

/-- A failure of a reload ends it unresponsive in phase 2 (R174). -/
theorem operationFails_reload {s : State} {ws : List Word} (h : s.store.job = .reload ws) (word : Nat) :
    operationFails word s = endReload (.unresponsive word 2) s := by
  simp only [operationFails, h]

/-- An operation that ends in time. -/
theorem opDone_eq {s : State} {o : StoreOp} (hop : s.store.op = some o) (hage : o.age < 625000) (data : Word) :
    opDone data s = operationEnds o.word data s := by
  simp only [opDone, hop]
  exact if_pos hage

/-- An operation whose 10 ms have passed. -/
theorem opFail_eq {s : State} {o : StoreOp} (hop : s.store.op = some o) (hage : 625000 ≤ o.age) :
    opFail s = operationFails o.word s := by
  simp only [opFail, hop]
  exact if_pos hage

/-- Settles O20: the ends of a load by the judgement of its list (`judgeList_rejected`, `judgeList_accepted`), the pairs
by `applyPair_of_presettable` and `writeReg_silent`, TABLE 11-2 by `exists_presettable`. -/
theorem loadsEndWithTheirOutcome : Obligations.LoadsEndWithTheirOutcome := by
  refine ⟨fun data o ws s hop hage hlast => ?ends, fun o v ps s => ⟨rfl, rfl, applyPairs_counts ps s, ?skipped, ?write⟩,
    exists_presettable, fun o s hop hage => ?fails⟩
  case ends =>
    have act : Acts (.storeOperationDone data) s (opDone data s) := acts_inTurn (fun _ => rfl) s
    rw [opDone_eq hop hage, hlast] at act
    refine ⟨fun hjob => ?boot, fun c rest hjob hfifo => ?reload⟩
    case boot =>
      rw [operationEnds_boot hjob] at act
      refine ⟨fun hcode => ?_, fun hcode => ⟨_, _, _, rfl, ?_⟩⟩
      · rwa [judgeList_rejected hcode, endBoot, recordOutcome_rejected] at act
      · rwa [judgeList_accepted hcode] at act
    case reload =>
      rw [operationEnds_reload hjob] at act
      refine ⟨fun hcode => ?_, fun hcode => ⟨_, _, _, rfl, ?_⟩⟩
      · rwa [judgeList_rejected hcode, endReload_cons hfifo, recordOutcome_rejected] at act
      · rw [judgeList_accepted hcode, endReload_cons (by rw [applyPairs_cmd]; exact hfifo), applyPairs_cmd] at act
        exact act
  case skipped =>
    intro hnone
    rw [applyPair_of_not_presettable hnone]
    exact ⟨rfl, rfl⟩
  case write =>
    intro r hp ho
    rw [applyPair_of_presettable hp ho]
    refine ⟨writeReg_silent hp, ?devctl, (writeReg_preset_ok hp v s).trans rfl⟩
    case devctl =>
      rintro rfl
      exact writeDevctl_silent v s
  case fails =>
    have act : Acts .storeOperationFail s (opFail s) := acts_inTurn (fun _ => rfl) s
    rw [opFail_eq hop hage] at act
    refine ⟨fun ws hjob => ?_, fun ws hjob => ?_, fun c rest hfifo hjob => ?_, fun c rest ws hfifo hjob => ?_⟩
    · rwa [operationFails_identity hjob] at act
    · rwa [operationFails_preset hjob] at act
    · rwa [operationFails_command hjob, endStoreWord_cons hfifo] at act
    · rwa [operationFails_reload hjob, endReload_cons hfifo, recordOutcome_unresponsive] at act

end Sys2Proof.Machine
end

section
/-! SUPPORT. The frame synchronizer (R36 to R45, R51): the comparison, SEARCH and the polarity flip, expected sync positions,
length errors and LANE_RESYNC: the statements O28, O29, O30 and O46. -/

namespace Sys2Proof.Machine

/-! ### The comparison (R36) -/

/-- The ones in the low bits of a word, counted bit by bit. -/
theorem onesIn_eq_length_filter (x : Word) (k : Nat) :
    onesIn x k = ((List.range k).filter (fun i => x.getLsbD i)).length := by
  induction k with
  | zero => rfl
  | succ k ih =>
    rw [onesIn, ih, List.range_succ, List.filter_append, List.length_append, Nat.add_comm]
    cases h : x.getLsbD k <;> simp [h, bit]

/-- A comparison matches when the history is full and at most T bits differ from the pattern. -/
theorem matchesSync_iff (l : Lane) :
    l.matchesSync = true ↔ l.histLen = l.syncLen
      ∧ ((List.range l.syncLen).filter (fun i => l.hist.getLsbD i != l.lsync.getLsbD i)).length ≤ l.tol := by
  simp only [Lane.matchesSync, Bool.and_eq_true, beq_iff_eq, decide_eq_true_eq, onesIn_eq_length_filter,
    BitVec.getLsbD_xor]

/-! ### Frame starts and lock (R39 to R41, R45) -/

/-- The lane as a frame start leaves it: the frame takes the counter, the polarity state and every pending mark, and
its body begins (R45). -/
def Lane.startFrame (l : Lane) (ref : DWord) (coast : Bool) : Lane :=
  { l with
    frame :=
      some
        { stamp := ref, markMask := l.markMask, markTime := l.markTime, inv := l.pol, coast := coast, fate := .undecided }
    marks := Vector.replicate 4 none
    asm :=
      some
        { phase := .body, nbytes := 0, nbits := 0, cur := 0, len := if l.lengthMode then none else some l.fixLen
          hdrDone := false, fcs := crcStart l.fcsLen, delay := [], head := [] } }

theorem frameStart_setLane (n : Fin 4) (coast : Bool) (s : State) (l : Lane) :
    frameStart n coast (s.setLane n l) = s.setLane n (l.startFrame s.tb.ref coast) := by
  simp only [frameStart, State.modLane, lane_setLane, setLane_setLane]
  rfl

theorem frameStart_eq (n : Fin 4) (coast : Bool) (s : State) :
    frameStart n coast s = s.setLane n ((s.lane n).startFrame s.tb.ref coast) := rfl

/-- Lock acquisition: LOCKED, a frame start, and 0x20 with the polarity and the dwell count (R39). -/
theorem acquireLock_setLane (n : Fin 4) (s : State) (l : Lane) :
    acquireLock n (s.setLane n l) =
      { s.setLane n (({ l with st := .locked, missCnt := 0 } : Lane).startFrame s.tb.ref false) with
        ev := (post 0x20 (srcIdx n) (BitVec.ofNat 32 (bit l.pol)) l.dwell s).ev } := by
  simp only [acquireLock, State.modLane, lane_setLane, setLane_setLane, frameStart_setLane]
  rfl

/-- Loss of lock by sync misses: a warm entry to SEARCH, LOCKLOSS and 0x21 (R41). -/
theorem loseLock_eq (n : Fin 4) (s : State) :
    loseLock n s =
      { s.setLane n (((s.lane n).toSearch false).count .lockLoss) with
        ev := (post 0x21 (srcIdx n) 1 (BitVec.ofNat 32 (laneCode (s.lane n).st)) s).ev } := rfl

/-! ### SEARCH (R37, R39) -/

/-- The comparison in SEARCH. -/
theorem syncFoundAt_due {n : Fin 4} {s : State} (hst : (s.lane n).st = .search) (hcmp : (s.lane n).cmpDue = true) :
    syncFoundAt n s =
      (let l : Lane := { s.lane n with cmpDue := false }
       if (s.lane n).matchesSync then
         if (s.lane n).verifyGoal = 1 then
           { s.setLane n (({ l with st := .locked, missCnt := 0 } : Lane).startFrame s.tb.ref false) with
             ev := (post 0x20 (srcIdx n) (BitVec.ofNat 32 (bit l.pol)) l.dwell s).ev }
         else s.setLane n ({ l with st := .verify, verifyCnt := 1 } : Lane).beginBody
       else s.setLane n l) := by
  unfold syncFoundAt
  dsimp only
  rw [if_pos ⟨hst, hcmp⟩, State.modLane, acquireLock_setLane]
  rfl

theorem syncFoundAt_notDue {n : Fin 4} {s : State} (h : (s.lane n).st ≠ .search ∨ (s.lane n).cmpDue = false) :
    syncFoundAt n s = s :=
  if_neg fun due => h.elim (· due.1) (by simp [due.2])

/-! ### What the assembly context rules out -/

theorem headerDue_of_noAssembly {l : Lane} (h : l.asm = none) : l.headerDue = false := by
  simp only [Lane.headerDue, h]

theorem frameEndDue_of_noAssembly {l : Lane} (h : l.asm = none) : l.frameEndDue = false := by
  simp only [Lane.frameEndDue, h]

theorem positionDue_of_noAssembly {l : Lane} (h : l.asm = none) : l.positionDue = false := by
  simp only [Lane.positionDue, h]

/-- At an expected sync position no body is framed. -/
theorem not_bodyDue_of_positionDue {l : Lane} (h : l.positionDue = true) :
    l.headerDue = false ∧ l.frameEndDue = false := by
  unfold Lane.positionDue at h
  split at h
  next a ha =>
    have sync : a.phase = .sync := by simpa using (Bool.and_eq_true_iff.mp h).1
    simp [Lane.headerDue, Lane.frameEndDue, ha, sync]
  next => exact absurd h Bool.false_ne_true

theorem headerExtentAt_notDue {n : Fin 4} {s : State} (h : (s.lane n).headerDue = false) : headerExtentAt n s = s := by
  simp [headerExtentAt, h]

theorem frameEndAt_notDue {n : Fin 4} {s : State} (h : (s.lane n).frameEndDue = false) : frameEndAt n s = s := by
  simp [frameEndAt, h]

theorem syncPositionAt_notDue {n : Fin 4} {s : State} (h : (s.lane n).positionDue = false) :
    syncPositionAt n s = s := by
  simp [syncPositionAt, h]

/-- Without a body at its header extent or its end, the last bit causes what its comparison does. -/
theorem settleSync_eq {n : Fin 4} {s : State} (hh : (s.lane n).headerDue = false)
    (he : (s.lane n).frameEndDue = false) : settleSync n s = syncFoundAt n (syncPositionAt n s) := by
  rw [settleSync, headerExtentAt_notDue hh, frameEndAt_notDue he]

/-! ### The polarity flip (R44) -/

/-- A flip is due on a line-fed AUTO lane in SEARCH or VERIFY whose last bit ended the dwell. -/
theorem flipDue_iff (l : Lane) :
    l.flipDue = true ↔ (l.st = .search ∨ l.st = .verify) ∧ l.polMode = 0 ∧ l.inject = false ∧ l.dwellEnd = true := by
  simp [Lane.flipDue, and_assoc]

/-- The lane as a flip leaves it: inverted, in a cold SEARCH. -/
def Lane.flip (l : Lane) : Lane := ({ l with pol := !l.pol } : Lane).toSearch true

/-- A flip that is due: the polarity inverts, the lane makes a cold entry to SEARCH, and 0x22 tells it. -/
theorem flipAt_due {n : Fin 4} {s : State} (h : (s.lane n).flipDue = true) :
    flipAt n s =
      { s.setLane n (s.lane n).flip with
        ev := (post 0x22 (srcIdx n) (BitVec.ofNat 32 (bit (!(s.lane n).pol))) 0 s).ev } := by
  unfold flipAt
  simp only [if_pos h, State.modLane, lane_setLane]
  rfl

/-- A flip of a lane that its last bit has left searching, whether or not that bit ended a verification. -/
theorem flipRow_flips {n : Fin 4} {s : State} {l : Lane} (hdue : (s.lane n).flipDue = true)
    (hsettle : settleSync n s = s.setLane n l) (hl : l.flipDue = true) (hflip : l.flip = (s.lane n).flip)
    (hpol : l.pol = (s.lane n).pol) :
    flipRow n s =
      { s.setLane n (s.lane n).flip with
        ev := (post 0x22 (srcIdx n) (BitVec.ofNat 32 (bit (!(s.lane n).pol))) 0 s).ev } := by
  unfold flipRow
  rw [if_pos hdue, hsettle, flipAt_due (by rwa [lane_setLane]), lane_setLane, setLane_setLane, hflip, hpol]
  rfl

/-! ### Expected sync positions (R38, R40, R41) -/

/-- A mismatch in VERIFY is a warm entry to SEARCH (R38). -/
theorem syncPositionAt_verify_miss {n : Fin 4} {s : State} (hdue : (s.lane n).positionDue = true)
    (hst : (s.lane n).st = .verify) (hmiss : (s.lane n).matchesSync = false) :
    syncPositionAt n s = s.setLane n ((s.lane n).toSearch false) := by
  simp only [syncPositionAt, hdue, hst, hmiss, if_true, Bool.false_eq_true, if_false]
  rfl

/-- A match in VERIFY counts, and acquires lock when V are counted (R38, R39). -/
theorem syncPositionAt_verify_match {n : Fin 4} {s : State} (hdue : (s.lane n).positionDue = true)
    (hst : (s.lane n).st = .verify) (hmatch : (s.lane n).matchesSync = true) :
    syncPositionAt n s =
      if (s.lane n).verifyCnt + 1 < (s.lane n).verifyGoal then
        s.modLane n (fun l => ({ l with verifyCnt := l.verifyCnt + 1 } : Lane).beginBody)
      else acquireLock n s := by
  simp only [syncPositionAt, hdue, hst, hmatch, if_true]

/-- A match in LOCKED or COAST starts the next frame in LOCKED (R40). -/
theorem syncPositionAt_match {n : Fin 4} {s : State} (hdue : (s.lane n).positionDue = true)
    (hst : (s.lane n).st = .locked ∨ (s.lane n).st = .coast) (hmatch : (s.lane n).matchesSync = true) :
    ∃ misses, syncPositionAt n s
      = s.setLane n (({ s.lane n with st := .locked, missCnt := misses } : Lane).startFrame s.tb.ref false) := by
  rcases hst with hst | hst
  · refine ⟨(s.lane n).missCnt, ?_⟩
    have same : ({ s.lane n with st := .locked } : Lane) = s.lane n := by rw [← hst]
    simp only [syncPositionAt, hdue, hst, hmatch, if_true, same]
    rfl
  · refine ⟨0, ?_⟩
    simp only [syncPositionAt, hdue, hst, hmatch, if_true, State.modLane, frameStart_setLane]

/-- A miss in LOCKED or COAST, the `misses`-th in a row, coasts below the limit M and else loses lock (R40, R41). -/
theorem syncPositionAt_miss {n : Fin 4} {s : State} {misses : Nat} (hdue : (s.lane n).positionDue = true)
    (hst : (s.lane n).st = .locked ∧ misses = 1 ∨ (s.lane n).st = .coast ∧ misses = (s.lane n).missCnt + 1)
    (hmiss : (s.lane n).matchesSync = false) :
    syncPositionAt n s =
      if misses < (s.lane n).coastLimit then
        s.setLane n (({ s.lane n with st := .coast, missCnt := misses } : Lane).startFrame s.tb.ref true)
      else loseLock n s := by
  rcases hst with ⟨hst, rfl⟩ | ⟨hst, rfl⟩
  · simp only [syncPositionAt, hdue, hst, hmiss, if_true, Bool.false_eq_true, if_false, State.modLane,
      frameStart_setLane]
    rfl
  · simp only [syncPositionAt, hdue, hst, hmiss, if_true, Bool.false_eq_true, if_false, State.modLane,
      frameStart_setLane]

/-- Settles O28: the comparison is `matchesSync_iff`, SEARCH is `syncFoundAt_due`, and a flip is due by `flipDue_iff`
and made by `flipRow_flips`, whatever the bit has left to settle. -/
theorem searchFindsSyncOrFlips : Obligations.SearchFindsSyncOrFlips := by
  refine ⟨matchesSync_iff, fun n s => ?search, fun n s => ⟨fun hmode hline hdwell hcase => ?flips, ?locks, ?idle⟩⟩
  case search =>
    intro l body hst hcmp
    have act : Acts (.syncFound n) s (syncFoundAt n s) := acts_inTurn (fun _ => rfl) s
    rw [syncFoundAt_due hst hcmp] at act
    refine ⟨fun hmatch hgoal => ?_, fun hmatch hgoal => ?_, fun hmiss => ?_⟩
    · dsimp only at act
      rwa [if_pos hmatch, if_neg hgoal] at act
    · dsimp only at act
      rwa [if_pos hmatch, if_pos hgoal] at act
    · dsimp only at act
      rwa [if_neg (by simpa using hmiss)] at act
  case flips =>
    have act : Acts (.polarityFlipped n) s (flipRow n s) := acts_inTurn (fun _ => rfl) s
    have due (hst : (s.lane n).st = .search ∨ (s.lane n).st = .verify) : (s.lane n).flipDue = true :=
      (flipDue_iff _).mpr ⟨hst, hmode, hline, hdwell⟩
    obtain ⟨hst, hcmp, hasm⟩ | ⟨hst, hh, he, hp⟩ | ⟨hst, hp, hmiss⟩ := hcase
    · have settled : settleSync n s = s.setLane n (s.lane n) := by
        rw [settleSync_eq (headerDue_of_noAssembly hasm) (frameEndDue_of_noAssembly hasm),
          syncPositionAt_notDue (positionDue_of_noAssembly hasm), syncFoundAt_notDue (.inr hcmp), setLane_self]
      rwa [flipRow_flips (due (.inl hst)) settled (due (.inl hst)) rfl rfl] at act
    · have settled : settleSync n s = s.setLane n (s.lane n) := by
        rw [settleSync_eq hh he, syncPositionAt_notDue hp, syncFoundAt_notDue (.inl (by simp [hst])), setLane_self]
      rwa [flipRow_flips (due (.inr hst)) settled (due (.inr hst)) rfl rfl] at act
    · obtain ⟨hh, he⟩ := not_bodyDue_of_positionDue hp
      have settled : settleSync n s = s.setLane n ((s.lane n).toSearch false) := by
        rw [settleSync_eq hh he, syncPositionAt_verify_miss hp hst hmiss,
          syncFoundAt_notDue (.inr (by rw [lane_setLane]; rfl))]
      have due' : ((s.lane n).toSearch false).flipDue = true := (flipDue_iff _).mpr ⟨.inl rfl, hmode, hline, hdwell⟩
      rwa [flipRow_flips (due (.inr hst)) settled due' rfl rfl] at act
  case locks =>
    intro hmode hline hdwell hst hasm hcmp hmatch hgoal
    have found : Acts (.syncFound n) s (syncFoundAt n s) := acts_inTurn (fun _ => rfl) s
    have flip : Acts (.polarityFlipped n) s (flipRow n s) := acts_inTurn (fun _ => rfl) s
    have lane : (syncFoundAt n s).lane n
        = ({ s.lane n with cmpDue := false, st := .locked, missCnt := 0 } : Lane).startFrame s.tb.ref false := by
      rw [syncFoundAt_due hst hcmp]
      dsimp only
      rw [if_pos hmatch, if_pos hgoal]
      exact lane_setLane s n _
    have settled : settleSync n s = syncFoundAt n s := by
      rw [settleSync_eq (headerDue_of_noAssembly hasm) (frameEndDue_of_noAssembly hasm),
        syncPositionAt_notDue (positionDue_of_noAssembly hasm)]
    have row : flipRow n s = syncFoundAt n s := by
      unfold flipRow
      rw [if_pos ((flipDue_iff _).mpr ⟨.inl hst, hmode, hline, hdwell⟩), settled, flipAt, lane]
      rfl
    rw [row] at flip
    exact ⟨_, flip, found, by rw [lane]; rfl, by rw [lane]; rfl⟩
  case idle =>
    intro hsearch hverify
    have act : Acts (.polarityFlipped n) s (flipRow n s) := acts_inTurn (fun _ => rfl) s
    have notDue : ¬(s.lane n).flipDue = true := fun due =>
      ((flipDue_iff _).mp due).1.elim hsearch hverify
    rwa [flipRow, if_neg notDue] at act

/-- Settles O29: what each state does at an expected position is `syncPositionAt_match`, `syncPositionAt_miss`,
`syncPositionAt_verify_match` and `syncPositionAt_verify_miss`. -/
theorem syncPositionHoldsCoastsOrLoses : Obligations.SyncPositionHoldsCoastsOrLoses := by
  intro n s l hdue
  have act : Acts (.syncPosition n) s (syncPositionAt n s) := acts_inTurn (fun _ => rfl) s
  refine ⟨fun hst hmatch => ?holds, fun misses hst hmiss hlimit => ?coasts, fun misses hst hmiss hlimit => ?loses,
    fun hst hmiss => ?returns, fun hst hmatch hgoal => ?counts, fun hst hmatch hgoal => ?acquires⟩
  case holds =>
    obtain ⟨misses, h⟩ := syncPositionAt_match hdue hst hmatch
    rw [h] at act
    exact ⟨_, _, act, congrArg Lane.st (lane_setLane s n _), congrArg Lane.frame (lane_setLane s n _), rfl, rfl, rfl,
      fun m hm => lane_setLane_ne s _ hm, rfl, rfl, rfl⟩
  case coasts =>
    rw [syncPositionAt_miss hdue hst hmiss, if_pos hlimit] at act
    exact ⟨_, _, act, congrArg Lane.st (lane_setLane s n _), congrArg Lane.missCnt (lane_setLane s n _),
      congrArg Lane.frame (lane_setLane s n _), rfl, rfl, fun m hm => lane_setLane_ne s _ hm, rfl, rfl, rfl⟩
  case loses => rwa [syncPositionAt_miss hdue hst hmiss, if_neg (Nat.not_lt.mpr hlimit), loseLock_eq] at act
  case returns => rwa [syncPositionAt_verify_miss hdue hst hmiss] at act
  case counts =>
    rw [syncPositionAt_verify_match hdue hst hmatch, if_pos hgoal] at act
    refine ⟨_, act, ?_⟩
    rw [lane_modLane]
    exact ⟨hst, rfl, rfl, rfl⟩
  case acquires =>
    have locked := acquireLock_setLane n s (s.lane n)
    rw [setLane_self] at locked
    rw [syncPositionAt_verify_match hdue hst hmatch, if_neg (Nat.not_lt.mpr hgoal), locked] at act
    have lane (x : Lane) (ev : Events) : ({ s.setLane n x with ev := ev } : State).lane n = x := lane_setLane s n x
    exact ⟨_, _, act, congrArg Lane.st (lane _ _), congrArg Lane.frame (lane _ _), rfl, rfl⟩

/-! ### Length errors (R43) -/

/-- A computed length is in error below 4, the header extent or F + 1, and above 4096. -/
theorem lengthBad_iff (l : Lane) (len : Int) :
    l.lengthBad len = true ↔ len < 4 ∨ len < l.hdrExtent ∨ len < l.fcsLen + 1 ∨ 4096 < len := by
  simp only [Lane.lengthBad, Bool.or_eq_true, decide_eq_true_eq]
  omega

/-- The header extent of a LENGTH-mode body whose computed length is in error. -/
theorem headerExtentAt_lengthError {n : Fin 4} {s : State} {a : Assembly} (ha : (s.lane n).asm = some a)
    (hdue : (s.lane n).headerDue = true) (hmode : (s.lane n).lengthMode = true)
    (hbad : (s.lane n).lengthBad ((s.lane n).fieldLength a.head) = true) :
    headerExtentAt n s = lengthError n ((s.lane n).fieldLength a.head) s := by
  simp only [headerExtentAt, hdue, ha, hmode, hbad, if_true]

/-- The lane as a length error leaves it: warm in SEARCH, with what it counts. -/
def Lane.dropBody (l : Lane) : Lane :=
  let counted := (l.toSearch false).count .lenErr
  let marked := match l.frame with | some f => f.marked | none => false
  let counted := if marked then counted.count .marksLost else counted
  if l.st = .locked ∨ l.st = .coast then counted.count .lockLoss else counted

/-- A length error replaces the lane and tells 0x25, and 0x21 behind it from LOCKED and COAST. -/
theorem lengthError_eq (n : Fin 4) (len : Int) (s : State) :
    lengthError n len s =
      (let left : Word := BitVec.ofNat 32 (laneCode (s.lane n).st)
       let told : State := post 0x25 (srcIdx n) (BitVec.ofInt 32 len) left s
       { s.setLane n (s.lane n).dropBody with
         ev :=
           if (s.lane n).st = .locked ∨ (s.lane n).st = .coast then (post 0x21 (srcIdx n) 2 left told).ev
           else told.ev }) := by
  have posted (c : Byte) (x y : Word) (u : State) (l : Lane) :
      (post c (srcIdx n) x y u).setLane n l = post c (srcIdx n) x y (u.setLane n l) := rfl
  unfold lengthError Lane.dropBody
  simp only [loseMarks_setLane, bumpLane, State.modLane, post_lane, lane_setLane, posted, setLane_setLane]
  by_cases h : (s.lane n).st = .locked ∨ (s.lane n).st = .coast
  · simp only [if_pos h]
    rfl
  · simp only [if_neg h]
    rfl

/-- A body dropped for its length leaves the lane in SEARCH with its history. -/
theorem dropBody_reads (l : Lane) :
    l.dropBody.st = .search ∧ l.dropBody.frame = none ∧ l.dropBody.asm = none ∧ l.dropBody.hist = l.hist := by
  unfold Lane.dropBody
  dsimp only
  repeat' split
  all_goals exact ⟨rfl, rfl, rfl, rfl⟩

/-- What a body dropped for its length counts. -/
theorem dropBody_counters (l : Lane) :
    l.dropBody.counter .lenErr = l.counter .lenErr + 1
      ∧ l.dropBody.counter .marksLost
        = l.counter .marksLost + (match l.frame with | some f => if f.marked then 1 else 0 | none => 0)
      ∧ l.dropBody.counter .lockLoss = l.counter .lockLoss + (if l.st = .locked ∨ l.st = .coast then 1 else 0) := by
  have search (c : LaneCtr) : (l.toSearch false).counter c = l.counter c := rfl
  have marks : (match l.frame with | some f => if f.marked then 1 else 0 | none => 0 : Word)
      = if (match l.frame with | some f => f.marked | none => false) = true then 1 else 0 := by
    cases l.frame <;> rfl
  rw [marks]
  unfold Lane.dropBody
  dsimp only
  generalize (match l.frame with | some f => f.marked | none => false) = marked
  cases marked <;> by_cases h : l.st = .locked ∨ l.st = .coast <;>
    simp [h, counter_count_ne, search]

/-- Settles O30: the header extent of a body in error is `lengthError_eq`. -/
theorem lengthErrorDropsTheBody : Obligations.LengthErrorDropsTheBody := by
  intro n a s l len left ev25 ha hdue hmode hlen
  have act : Acts (.headerExtent n) s (headerExtentAt n s) := acts_inTurn (fun _ => rfl) s
  rw [headerExtentAt_lengthError ha hdue hmode ((lengthBad_iff _ _).mpr hlen), lengthError_eq] at act
  obtain ⟨hst, hframe, hasm, hhist⟩ := dropBody_reads l
  obtain ⟨lenErr, marksLost, lockLoss⟩ := dropBody_counters l
  refine ⟨_, act, ?_⟩
  have lane (x : Lane) (ev : Events) : ({ s.setLane n x with ev := ev } : State).lane n = x := lane_setLane s n x
  rw [lane]
  exact ⟨hst, hframe, hasm, hhist, lenErr, marksLost, lockLoss, rfl, fun m hm => lane_setLane_ne s _ hm, rfl, rfl, rfl⟩

/-! ### LANE_RESYNC (R51) -/

/-- A lane's number is a target of LANE_RESYNC (TABLE 10-1). -/
theorem targetOk_resync (n : Fin 4) : targetOk 0x28 (BitVec.ofNat 8 n.val) = true := by
  revert n; decide

theorem laneOfTarget (n : Fin 4) : Fin.ofNat 4 (BitVec.ofNat 8 n.val).toNat = n := by
  revert n; decide

/-- LANE_RESYNC of a lane in SEARCH changes nothing. -/
theorem runLaneResync_search {c : Cmd} {n : Fin 4} {s : State} (hn : Fin.ofNat 4 c.target.toNat = n)
    (hst : (s.lane n).st = .search) :
    runLaneResync c s = endCmd c .noChange (BitVec.ofNat 32 (laneCode (s.lane n).st)) s := by
  simp only [runLaneResync, hn, hst]

/-- LANE_RESYNC of a lane that does not receive is refused. -/
theorem runLaneResync_idle {c : Cmd} {n : Fin 4} {s : State} (hn : Fin.ofNat 4 c.target.toNat = n)
    (hst : (s.lane n).st = .off ∨ (s.lane n).st = .noclock) :
    runLaneResync c s = endCmd c .badState (BitVec.ofNat 32 (laneCode (s.lane n).st)) s := by
  rcases hst with hst | hst <;> simp only [runLaneResync, hn, hst]

/-- LANE_RESYNC of a lane that frames a body abandons its frame and makes a cold entry to SEARCH. -/
theorem runLaneResync_framing {c : Cmd} {n : Fin 4} {s : State} (hn : Fin.ofNat 4 c.target.toNat = n)
    (hst : (s.lane n).st = .verify ∨ (s.lane n).st = .locked ∨ (s.lane n).st = .coast) :
    runLaneResync c s
      = endCmd c .ok (BitVec.ofNat 32 (laneCode (s.lane n).st))
          ((abandon n s).modLane n (fun l => l.toSearch true)) := by
  rcases hst with hst | hst | hst <;> simp only [runLaneResync, hn, hst]

/-- The counts of an abandoned frame leave the rest of the lane alone. -/
theorem countAbandoned_reads (l : Lane) :
    l.countAbandoned.pol = l.pol ∧ l.countAbandoned.marks = l.marks ∧ l.countAbandoned.fifo = l.fifo := by
  unfold Lane.countAbandoned
  repeat' split
  all_goals exact ⟨rfl, rfl, rfl⟩

/-- Settles O46: the command step by `runCmd_ready`, the abandoned frame by `abandon_modLane_reads`. -/
theorem laneResyncMakesAColdEntry : Obligations.LaneResyncMakesAColdEntry := by
  intro n c rest s hready hop htarget l ends
  have act : Acts .laneResync s (runCmd 0x28 runLaneResync s) := acts_inTurn (fun _ => rfl) s
  have target : Fin.ofNat 4 c.target.toNat = n := by rw [htarget, laneOfTarget]
  rw [runCmd_ready _ hready hop, hop, if_pos (htarget ▸ targetOk_resync n)] at act
  refine ⟨fun hst => ?search, fun hst => ?idle, fun hst => ?framing⟩
  case search => rwa [runLaneResync_search target hst, endCmd_ready _ _ hready] at act
  case idle => rwa [runLaneResync_idle target hst, endCmd_ready _ _ hready] at act
  case framing =>
    rw [runLaneResync_framing target hst] at act
    obtain ⟨lane, others, free, mem, routes, -, ev⟩ := abandon_modLane_reads n (fun l => l.toSearch true) s
    obtain ⟨-, -, -, cmd, -⟩ := abandon_keepsUnits n s
    obtain ⟨-, -, tb⟩ := abandon_keepsClock n s
    obtain ⟨hfifo, -, -⟩ := hready
    obtain ⟨pol, marks, fifo⟩ := countAbandoned_reads l
    have ended : (endCmd c .ok (BitVec.ofNat 32 (laneCode l.st))
        ((abandon n s).modLane n (fun l => l.toSearch true))).lane n = _ := lane
    refine ⟨_, act, ?_⟩
    rw [ended]
    refine ⟨rfl, rfl, rfl, rfl, pol, marks, fifo, free, mem, ?_, others, routes, fun hnone => ?_⟩
    · have queue : (abandon n s).cmd.fifo.drop 1 = rest := by rw [cmd, hfifo, List.drop_one, List.tail_cons]
      exact queue
    · exact post_ev_congr _ _ _ _ (ev hnone) (congrArg Timebase.ref tb)

end Sys2Proof.Machine
end

section
/-! SUPPORT. The frame end (R47, R48, R62 to R64, R70 to R72, R81 to R85): the FCS register, the sequence check, commit and
discard: the statement O32. -/

namespace Sys2Proof.Machine

/-! ### The FCS register (R48) -/

/-- One bit: the register shifts, and takes the generator constant where its top bit differs from the data bit. -/
theorem crcBit_eq (F : Nat) (reg : Word) (b : Bool) :
    crcBit F reg b =
      (let w := if F = 2 then 16 else 32
       let shifted := (reg <<< 1) &&& BitVec.ofNat 32 (2 ^ w - 1)
       if reg.getLsbD (w - 1) ≠ b then shifted ^^^ (if F = 2 then 0x1021 else 0x04C11DB7) else shifted) := by
  have mask (w : Nat) : maskOf 0 w = BitVec.ofNat 32 (2 ^ w - 1) := by simp [maskOf]
  unfold crcBit crcWidth crcPoly
  simp only [mask, bne_iff_ne, ne_eq]
  rfl

theorem crcStart_eq (F : Nat) : crcStart F = BitVec.ofNat 32 (2 ^ (if F = 2 then 16 else 32) - 1) := by
  simp [crcStart, maskOf, crcWidth]

/-- The register has taken the bytes from the start value on, all but the last F, which are delayed. -/
def Assembly.Covers (a : Assembly) (F : Nat) (bytes : List Byte) : Prop :=
  a.fcs = (bytes.take (bytes.length - F)).foldl (crcByte F) (crcStart F) ∧ a.delay = bytes.drop (bytes.length - F)

theorem Assembly.covers_nil (a : Assembly) (F : Nat) :
    ({ a with fcs := crcStart F, delay := [] } : Assembly).Covers F [] := by
  simp [Assembly.Covers]

theorem Assembly.Covers.takeFcs {a : Assembly} {F : Nat} {bytes : List Byte} (h : a.Covers F bytes) (v : Byte) :
    (a.takeFcs F v).Covers F (bytes ++ [v]) := by
  obtain ⟨fcs, delay⟩ := h
  rw [takeFcs_eq, Assembly.Covers, List.length_append, List.length_singleton]
  by_cases short : bytes.length < F
  · have now : bytes.length - F = 0 := by omega
    have next : bytes.length + 1 - F = 0 := by omega
    rw [now] at fcs delay
    simp [fcs, delay, next, short]
  · have next : bytes.length + 1 - F = bytes.length - F + 1 := by omega
    have whole : bytes.drop (bytes.length - F) ++ [v] = (bytes ++ [v]).drop (bytes.length - F) :=
      (List.drop_append_of_le_length (by omega)).symm
    have inside : bytes.length - F < (bytes ++ [v]).length := by simp
    have head : ((bytes ++ [v]).drop (bytes.length - F)).getD 0 0 = (bytes ++ [v])[bytes.length - F] := by simp
    have full : ¬a.delay.length < F := by rw [delay, List.length_drop]; omega
    simp only [if_neg full]
    refine ⟨?_, ?_⟩
    · rw [next, List.take_succ_eq_append_getElem inside, List.foldl_append, List.take_append_of_le_length (by omega), ← fcs,
        delay, whole, head]
      rfl
    · rw [next, delay, whole, List.drop_drop]

theorem foldl_takeFcs_covers {a : Assembly} {F : Nat} (h : a.Covers F []) (bytes : List Byte) :
    (bytes.foldl (fun a x => a.takeFcs F x) a).Covers F bytes := by
  induction bytes using List.reverseRecOn with
  | nil => exact h
  | append_singleton bytes v ih =>
    rw [List.foldl_append]
    exact ih.takeFcs v

/-- The verdict at the frame end compares the check value with the delayed bytes, big-endian. -/
theorem fcsVerdict_eq (F : Nat) (a : Assembly) :
    fcsVerdict F a
      = (if F = 0 then .none
         else if (if F = 2 then a.fcs else ~~~a.fcs).toNat = beNat a.delay then .good else .bad) := rfl

/-! ### The sequence check (R62 to R64) -/

/-- The conditions of R62: the entry a frame was classified by checks it, is valid and of the captured generation, its
lane has a sequence field, and its FCS is not bad. -/
theorem seqEntry_eq {s : State} {l : Lane} {t : Ticket} {v : FcsVerdict} {i : Fin 32}
    (hi : t.mIdx = BitVec.ofNat 8 i.val) :
    seqEntry s l t v =
      if t.gen = some (s.entry i).gen ∧ t.seqChk = true ∧ l.seqWidth ≠ 0 ∧ v ≠ .bad ∧ (s.entry i).valid = true then some i
      else none := by
  have idx : t.mIdx.toNat = i.val := by
    have := i.isLt
    rw [hi, BitVec.toNat_ofNat]
    omega
  unfold seqEntry
  cases t.gen with
  | none => simp
  | some g =>
    have lt : t.mIdx.toNat < 32 := idx ▸ i.isLt
    have entry : (⟨t.mIdx.toNat, lt⟩ : Fin 32) = i := Fin.ext idx
    simp only [lt, dif_pos, entry, Bool.and_eq_true, bne_iff_ne, beq_iff_eq, Option.some.injEq]
    refine if_congr ?_ rfl rfl
    constructor
    · rintro ⟨⟨⟨⟨chk, width⟩, fcs⟩, gen⟩, valid⟩
      exact ⟨gen.symm, chk, width, fcs, valid⟩
    · rintro ⟨gen, chk, width, fcs, valid⟩
      exact ⟨⟨⟨⟨chk, width⟩, fcs⟩, gen.symm⟩, valid⟩

theorem seqCheck_unchecked {n : Fin 4} {t : Ticket} {v : FcsVerdict} {s : State}
    (h : seqEntry s (s.lane n) t v = none) : seqCheck n t v s = (s, .none) := by
  simp only [seqCheck, h]

/-- The check under entry i, by the verdict on the distance. -/
theorem seqCheck_checked {n : Fin 4} {t : Ticket} {v : FcsVerdict} {s : State} {i : Fin 32}
    (h : seqEntry s (s.lane n) t v = some i) :
    let e := s.entry i
    let w := 8 * (s.lane n).seqWidth
    let moved := s.setEntry i { e with expected := BitVec.ofNat 16 ((t.seq.toNat + 1) % 2 ^ w), synced := true }
    let told (cause : Byte) (u : State) : State :=
      post cause (srcIdx i) (BitVec.ofNat 32 (e.expected.toNat % 2 ^ w))
        (packWord [(t.seq.toNat, 0), (n.val, 16), (t.route.val, 24)]) u
    (seqJudge e w t.seq = .none → seqCheck n t v s = (moved, .none))
      ∧ (seqJudge e w t.seq = .gap → seqCheck n t v s = (told 0x30 moved, .gap))
      ∧ (seqJudge e w t.seq = .back → seqCheck n t v s = (told 0x31 s, .back)) := by
  intro e w moved told
  refine ⟨fun hj => ?_, fun hj => ?_, fun hj => ?_⟩ <;>
  · have hj' : seqJudge (s.entry i) (8 * (s.lane n).seqWidth) t.seq = _ := hj
    simp only [seqCheck, h, hj']
    rfl

/-- The verdict on the distance (R63). -/
theorem seqJudge_cases (e : MatchEntry) (w : Nat) (sv : BitVec 16) :
    let d := (sv.toNat + 2 ^ w - e.expected.toNat % 2 ^ w) % 2 ^ w
    (e.synced = false ∨ d = 0 → seqJudge e w sv = .none)
      ∧ (e.synced = true → 0 < d → d < 2 ^ (w - 1) → seqJudge e w sv = .gap)
      ∧ (e.synced = true → 2 ^ (w - 1) ≤ d → seqJudge e w sv = .back) := by
  intro d
  have judged : seqJudge e w sv
      = if e.synced = true then (if d = 0 then .none else if d < 2 ^ (w - 1) then .gap else .back) else .none := by
    unfold seqJudge
    cases e.synced <;> rfl
  rw [judged]
  refine ⟨?_, fun hsync hpos hlt => ?_, fun hsync hle => ?_⟩
  · rintro (hsync | hd)
    · simp [hsync]
    · simp [hd]
  · rw [if_pos hsync, if_neg hpos.ne', if_pos hlt]
  · have := Nat.two_pow_pos (w - 1)
    rw [if_pos hsync, if_neg (by omega), if_neg (by omega)]


/-- The sequence check changes the match table and the event queue at most. -/
theorem seqCheck_frame (n : Fin 4) (t : Ticket) (v : FcsVerdict) (s : State) :
    ∃ table ev, (seqCheck n t v s).1 = { s with table := table, ev := ev } := by
  unfold seqCheck
  dsimp only
  split
  next => exact ⟨_, _, rfl⟩
  next => split <;> exact ⟨_, _, rfl⟩

/-- The sequence check looks at no more of the lane than its configuration. -/
theorem seqCheck_setLane {n : Fin 4} {t : Ticket} {v : FcsVerdict} {s : State} {l : Lane}
    (h : l.seqWidth = (s.lane n).seqWidth) :
    seqCheck n t v (s.setLane n l) = ((seqCheck n t v s).1.setLane n l, (seqCheck n t v s).2) := by
  have entry : seqEntry (s.setLane n l) l t v = seqEntry s (s.lane n) t v := by
    rw [seqEntry, seqEntry, h]
    rfl
  cases hs : seqEntry s (s.lane n) t v with
  | none => simp only [seqCheck, lane_setLane, entry, hs]
  | some i =>
    simp only [seqCheck, lane_setLane, entry, hs, h, setLane_entry]
    cases seqJudge (s.entry i) (8 * (s.lane n).seqWidth) t.seq <;> rfl

/-! ### Buffer memory in front of a body (R68, R71) -/

/-- The first block of a chain holds its first 2048 bytes. -/
theorem chainAddr_firstBlock (b : Nat) (bs : List Nat) {off : Nat} (h : off < 2048) :
    chainAddr (b :: bs) off = some (b * 2048 + off) := by
  have block : off / Config.blockBytes = 0 := Nat.div_eq_of_lt h
  have place : off % Config.blockBytes = off := Nat.mod_eq_of_lt h
  rw [chainAddr, block, place]
  rfl

/-- Bytes written in the first block of a chain read back. -/
theorem readChain_writeBytes (b : Nat) (bs : List Nat) (vs : List Byte) : ∀ (off : Nat) (m : Memory), m.wf = true →
    off + vs.length ≤ 2048 → ∀ (i : Nat) (h : i < vs.length),
      (Memory.writeBytes (b :: bs) vs off m).readChain (b :: bs) (off + i) = vs[i] := by
  induction vs with
  | nil => exact fun _ _ _ _ i h => absurd h (Nat.not_lt_zero i)
  | cons v vs ih =>
    intro off m hm fits i h
    rw [List.length_cons] at fits h
    rw [Memory.writeBytes]
    cases i with
    | zero =>
      have here := chainAddr_firstBlock b bs (off := off) (by omega)
      have apart (o : Nat) (h1 : off + 1 ≤ o) (h2 : o < off + 1 + vs.length) :
          chainAddr (b :: bs) o ≠ some (b * 2048 + off) := by
        rw [chainAddr_firstBlock b bs (by omega), ne_eq, Option.some.injEq]
        omega
      simp only [Nat.add_zero, Memory.readChain, here]
      exact (read_writeBytes_frame _ _ vs (off + 1) _ (wf_writeChain hm _ off v) apart).trans
        (read_writeChain hm here v).1
    | succ i =>
      have later := ih (off + 1) (m.writeChain (b :: bs) off v) (wf_writeChain hm _ off v) (by omega) i (by omega)
      rw [Nat.add_right_comm] at later
      exact later

/-- The flag TS of a record is the first of its flags (TABLE 5-2). -/
theorem recordFlags_ts (ts : Bool) (f : FrameCtx) (fcs : FcsVerdict) (sq : SeqVerdict) (pretrig : Bool) :
    (recordFlags ts f fcs sq pretrig).getLsbD 0 = ts := by
  rw [recordFlags, BitVec.getLsbD_ofNat, Nat.testBit_zero]
  have ts_bit : bit ts % 2 = 1 ↔ ts = true := by cases ts <;> decide
  rw [Bool.eq_iff_iff, ← ts_bit, Bool.and_eq_true, decide_eq_true_eq, decide_eq_true_eq]
  omega

/-- The parts in front of a stored body take 16 bytes, and 8 more each for the timestamp and the marks (R70, R71). -/
theorem length_frontBytes (x : Record) (t : Ticket) (f : FrameCtx) :
    (frontBytes x t f).length = 16 + 8 * bit x.ts + 8 * bit f.marked := by
  unfold frontBytes Record.headerBytes
  cases x.ts <;> cases f.marked <;> simp [length_leBytes, bit]

/-! ### Commit and discard (R82, R83, R85) -/

/-- The lane as the frame end leaves it: the SYNC phase of the next expected position begins (R47). -/
def Lane.endBody (l : Lane) (a : Assembly) : Lane :=
  { l with asm := some { a with phase := .sync, nbits := 0 }, frame := none }

theorem toSyncPhase_eq {l : Lane} {a : Assembly} (h : l.asm = some a) : l.toSyncPhase = l.endBody a := by
  simp only [Lane.toSyncPhase, h]
  rfl

/-- The frame end of a body that is not delivered (R38). -/
theorem frameEndAt_noFrame {n : Fin 4} {s : State} {a : Assembly} (ha : (s.lane n).asm = some a)
    (hdue : (s.lane n).frameEndDue = true) (hf : (s.lane n).frame = none) :
    frameEndAt n s = s.setLane n ((s.lane n).endBody a) := by
  rw [← toSyncPhase_eq ha]
  simp only [frameEndAt, hdue, ha, hf, if_true]
  rfl

/-- The counter of a delivered body's frame end (R47). -/
def FcsVerdict.laneCtr (v : FcsVerdict) : LaneCtr := if v = .bad then .fcsBad else .good

/-- The frame end of a delivered body that is not stored (R81, R101). -/
theorem frameEndAt_notStored {n : Fin 4} {s : State} {a : Assembly} {f : FrameCtx} (ha : (s.lane n).asm = some a)
    (hdue : (s.lane n).frameEndDue = true) (hf : (s.lane n).frame = some f) (hk : ∀ k, f.fate ≠ .admitted k) :
    frameEndAt n s
      = s.setLane n (((s.lane n).count (fcsVerdict (s.lane n).fcsLen a).laneCtr).endBody a) := by
  have ha' (c : LaneCtr) : ((s.lane n).count c).asm = some a := ha
  simp only [frameEndAt, hdue, ha, hf, if_true, ← toSyncPhase_eq (ha' _)]
  cases hfate : f.fate with
  | admitted k => exact absurd hfate (hk k)
  | undecided | dropped | withdrawn => exact modLane_modLane s n _ _

/-- The frame end of a frame in assembly for its route: it is finalized behind its count. -/
theorem frameEndAt_admitted {n : Fin 4} {s : State} {a : Assembly} {f : FrameCtx} {k : Ticket}
    (ha : (s.lane n).asm = some a) (hdue : (s.lane n).frameEndDue = true) (hf : (s.lane n).frame = some f)
    (hk : f.fate = .admitted k) :
    frameEndAt n s =
      (let v := fcsVerdict (s.lane n).fcsLen a
       (finalize n f k a.nbytes v (s.setLane n ((s.lane n).count v.laneCtr))).modLane n Lane.toSyncPhase) := by
  simp only [frameEndAt, hdue, ha, hf, hk, if_true]
  rfl

/-- A commit (R83): the record joins its route's queue with the next serial, and the parts in front of its body are
written. -/
theorem commitFrame_eq (n : Fin 4) (f : FrameCtx) (t : Ticket) (L : Nat) (v : FcsVerdict) (q : SeqVerdict) (s : State) :
    commitFrame n f t L v q s =
      (let x := s.route t.route
       let y := commitRecord s n f t L v q
       { s.setLane n { s.lane n with frame := none } with
         routes := s.routes.set t.route.val { x with serial := x.serial + 1, queue := x.queue ++ [y] }
         buf := { s.buf with mem := Memory.writeBytes t.chain (frontBytes y t f) 0 s.buf.mem } }) := rfl

/-- The lane without its frame, whose marks are counted if they are lost (R49). -/
def Lane.withoutFrame (l : Lane) (lost : Bool) : Lane :=
  let l := { l with frame := none }
  if lost then l.count .marksLost else l

/-- A discard (R82): the frame's route counts it, its marks are lost and its blocks join the free list. -/
theorem discardFrame_frame (n : Fin 4) (f : FrameCtx) (t : Ticket) (c : RouteCtr) (s : State) : ∃ sh ev trigs,
    discardFrame n f t c s =
      { (s.setLane n ((s.lane n).withoutFrame f.marked)).setRoute t.route ((s.route t.route).count c 1) with
        buf := { s.buf with free := s.buf.free ++ t.chain, shed := sh }, ev := ev, trigs := trigs }
      ∧ (s.buf.shed = false → ev = s.ev) := by
  have reorder (u : State) (x : Route) (l : Lane) :
      (u.setRoute t.route x).setLane n l = (u.setLane n l).setRoute t.route x := rfl
  have counted : loseMarks n f.marked (bumpRoute t.route c (closeFrame n s))
      = (s.setLane n ((s.lane n).withoutFrame f.marked)).setRoute t.route ((s.route t.route).count c 1) := by
    simp only [loseMarks_setLane, bumpRoute, closeFrame, State.modRoute, State.modLane, reorder, setLane_setLane,
      setRoute_lane, lane_setLane, setLane_route, Lane.withoutFrame]
  obtain ⟨sh, ev, trigs, h, hev⟩ := releaseChain_frame t.route t.chain
    ((s.setLane n ((s.lane n).withoutFrame f.marked)).setRoute t.route ((s.route t.route).count c 1))
  exact ⟨sh, ev, trigs, by rw [discardFrame, counted, h]; rfl, fun hs => (hev hs).1⟩

/-- The end of a committed frame: its lane goes on to the SYNC phase. -/
theorem commitFrame_toSyncPhase {n : Fin 4} {l : Lane} {a : Assembly} (ha : l.asm = some a) (f : FrameCtx) (t : Ticket)
    (L : Nat) (v : FcsVerdict) (q : SeqVerdict) (s : State) :
    (commitFrame n f t L v q (s.setLane n l)).modLane n Lane.toSyncPhase =
      (let x := s.route t.route
       let y := commitRecord (s.setLane n l) n f t L v q
       { s.setLane n (l.endBody a) with
         routes := s.routes.set t.route.val { x with queue := x.queue ++ [y], serial := x.serial + 1 }
         buf := { s.buf with mem := Memory.writeBytes t.chain (frontBytes y t f) 0 s.buf.mem } }) := by
  have ended : l.endBody a = ({ l with frame := none } : Lane).toSyncPhase := (toSyncPhase_eq ha).symm
  rw [commitFrame_eq, lane_setLane, setLane_setLane, ended]
  simp [State.modLane, State.setLane, State.lane, State.route]

/-- The end of a discarded frame: its lane, its marks counted, goes on to the SYNC phase. -/
theorem discardFrame_toSyncPhase {n : Fin 4} {l : Lane} {a : Assembly} (ha : l.asm = some a) (f : FrameCtx) (t : Ticket)
    (c : RouteCtr) (s : State) : ∃ sh ev trigs,
    (discardFrame n f t c (s.setLane n l)).modLane n Lane.toSyncPhase =
      { (s.setLane n ((if f.marked then l.count .marksLost else l).endBody a)).setRoute t.route
          ((s.route t.route).count c 1) with
        buf := { s.buf with free := s.buf.free ++ t.chain, shed := sh }, ev := ev, trigs := trigs }
      ∧ (s.buf.shed = false → ev = s.ev) := by
  obtain ⟨sh, ev, trigs, h, hev⟩ := discardFrame_frame n f t c (s.setLane n l)
  refine ⟨sh, ev, trigs, ?_, hev⟩
  have ended : (if f.marked then l.count .marksLost else l).endBody a = (l.withoutFrame f.marked).toSyncPhase := by
    unfold Lane.withoutFrame
    cases f.marked with
    | false => exact (toSyncPhase_eq (l := { l with frame := none }) ha).symm
    | true => exact (toSyncPhase_eq (l := ({ l with frame := none } : Lane).count .marksLost) ha).symm
  rw [h, lane_setLane, setLane_setLane, ended]
  simp [State.modLane, State.setLane, State.setRoute, State.lane, State.route]

/-- Finalization (R82) of a frame whose lane has been counted on: the sequence check, then discard or commit. -/
theorem finalize_setLane {n : Fin 4} {l : Lane} {s : State} {v : FcsVerdict} (h : l.seqWidth = (s.lane n).seqWidth)
    (f : FrameCtx) (t : Ticket) (L : Nat) :
    finalize n f t L v (s.setLane n l) =
      (let u := (seqCheck n t v s).1
       let q := (seqCheck n t v s).2
       let x := s.route t.route
       if v = .bad ∧ x.keepErrored = false then discardFrame n f t .fcsDiscarded (u.setLane n l)
       else if q = .back ∧ x.dropRetro = true then discardFrame n f t .retroDiscarded (u.setLane n l)
       else commitFrame n f t L v q (u.setLane n l)) := by
  obtain ⟨table, ev, hu⟩ := seqCheck_frame n t v s
  have route : ((seqCheck n t v s).1.setLane n l).route t.route = s.route t.route := by rw [hu]; rfl
  unfold finalize
  simp only [seqCheck_setLane h, route]

/-- The frame end of a frame that is neither bad nor retrograde commits its record (R82, R83). -/
theorem frameEndAt_commits {n : Fin 4} {s : State} {a : Assembly} {f : FrameCtx} {k : Ticket} {v : FcsVerdict}
    (ha : (s.lane n).asm = some a) (hdue : (s.lane n).frameEndDue = true) (hf : (s.lane n).frame = some f)
    (hk : f.fate = .admitted k) (hv : fcsVerdict (s.lane n).fcsLen a = v)
    (hdrops : ¬(v = .bad ∧ (s.route k.route).keepErrored = false))
    (hretro : ¬((seqCheck n k v s).2 = .back ∧ (s.route k.route).dropRetro = true)) :
    frameEndAt n s =
      (let x := s.route k.route
       let y := commitRecord s n f k a.nbytes v (seqCheck n k v s).2
       { (seqCheck n k v s).1.setLane n (((s.lane n).count v.laneCtr).endBody a) with
         routes := s.routes.set k.route.val { x with queue := x.queue ++ [y], serial := x.serial + 1 }
         buf := { s.buf with mem := Memory.writeBytes k.chain (frontBytes y k f) 0 s.buf.mem } }) := by
  obtain ⟨table, ev, hu⟩ := seqCheck_frame n k v s
  have counted : ((s.lane n).count v.laneCtr).asm = some a := ha
  have record : commitRecord ((seqCheck n k v s).1.setLane n ((s.lane n).count v.laneCtr)) n f k a.nbytes v
      (seqCheck n k v s).2 = commitRecord s n f k a.nbytes v (seqCheck n k v s).2 := by
    rw [commitRecord, commitRecord, lane_setLane, hu]
    rfl
  rw [frameEndAt_admitted ha hdue hf hk]
  simp only [hv]
  rw [finalize_setLane (l := (s.lane n).count v.laneCtr) rfl]
  simp only [if_neg hdrops, if_neg hretro]
  rw [commitFrame_toSyncPhase counted, record, hu]
  rfl

/-- The frame end of a frame that is bad or retrograde, where its route asks for it, discards the frame (R82). -/
theorem frameEndAt_discards {n : Fin 4} {s : State} {a : Assembly} {f : FrameCtx} {k : Ticket} {v : FcsVerdict}
    (ha : (s.lane n).asm = some a) (hdue : (s.lane n).frameEndDue = true) (hf : (s.lane n).frame = some f)
    (hk : f.fate = .admitted k) (hv : fcsVerdict (s.lane n).fcsLen a = v)
    (h : (v = .bad ∧ (s.route k.route).keepErrored = false)
      ∨ (seqCheck n k v s).2 = .back ∧ (s.route k.route).dropRetro = true) : ∃ sh ev trigs,
    frameEndAt n s =
      { (s.setLane n
          ((if f.marked then ((s.lane n).count v.laneCtr).count .marksLost
            else (s.lane n).count v.laneCtr).endBody a)).setRoute k.route
          ((s.route k.route).count
            (if v = .bad ∧ (s.route k.route).keepErrored = false then .fcsDiscarded else .retroDiscarded) 1) with
        table := (seqCheck n k v s).1.table
        buf := { s.buf with free := s.buf.free ++ k.chain, shed := sh }, ev := ev, trigs := trigs }
      ∧ (s.buf.shed = false → ev = (seqCheck n k v s).1.ev) := by
  obtain ⟨table, ev', hu⟩ := seqCheck_frame n k v s
  have counted : ((s.lane n).count v.laneCtr).asm = some a := ha
  have discards : finalize n f k a.nbytes v (s.setLane n ((s.lane n).count v.laneCtr))
      = discardFrame n f k
          (if v = .bad ∧ (s.route k.route).keepErrored = false then .fcsDiscarded else .retroDiscarded)
          ((seqCheck n k v s).1.setLane n ((s.lane n).count v.laneCtr)) := by
    rw [finalize_setLane (l := (s.lane n).count v.laneCtr) rfl]
    by_cases hd : v = .bad ∧ (s.route k.route).keepErrored = false
    · simp only [if_pos hd]
    · simp only [if_neg hd, if_pos (h.resolve_left hd)]
  obtain ⟨sh, ev, trigs, e, hev⟩ := discardFrame_toSyncPhase counted f k
    (if v = .bad ∧ (s.route k.route).keepErrored = false then .fcsDiscarded else .retroDiscarded) (seqCheck n k v s).1
  rw [frameEndAt_admitted ha hdue hf hk]
  simp only [hv]
  rw [discards, e, hu]
  rw [hu] at hev
  exact ⟨sh, ev, trigs, rfl, hev⟩

/-- The parts in front of a committed body (R70 to R72), little-endian. -/
theorem frontBytes_commitRecord (s : State) (n : Fin 4) (f : FrameCtx) (t : Ticket) (L : Nat) (v : FcsVerdict)
    (q : SeqVerdict) :
    let x := s.route t.route
    let y := commitRecord s n f t L v q
    frontBytes y t f
      = leBytes 2 y.length ++ [y.flags, BitVec.ofNat 8 n.val, t.mIdx, BitVec.ofNat 8 t.route.val]
        ++ leBytes 2 t.seq.toNat ++ leBytes 4 x.serial.toNat ++ leBytes 4 L
        ++ (if x.timestamp then leBytes 8 f.stamp.toNat else [])
        ++ (if f.marked then [BitVec.ofNat 8 f.markMask.toNat, 0, 0, 0] ++ leBytes 4 (f.markTime.toNat % 2 ^ 32)
            else []) := by
  intro x y
  have ts : y.ts = x.timestamp := recordFlags_ts _ _ _ _ _
  have low : (loWord f.markTime).toNat = f.markTime.toNat % 2 ^ 32 := by
    rw [loWord, BitVec.extractLsb'_toNat, Nat.shiftRight_zero]
  rw [frontBytes, ts, low]
  rfl

/-- A row of bytes written at the beginning of a chain reads back, and the rest of the memory is left alone. -/
theorem writeBytes_reads {m : Memory} (hm : m.wf = true) (chain : List Nat) (vs : List Byte) (fits : vs.length ≤ 2048) :
    (chain ≠ [] → (List.range vs.length).map ((Memory.writeBytes chain vs 0 m).readChain chain) = vs)
      ∧ ∀ addr, (∀ o, o < vs.length → chainAddr chain o ≠ some addr) →
        (Memory.writeBytes chain vs 0 m).read addr = m.read addr := by
  refine ⟨fun hne => ?_, fun addr hne => ?_⟩
  · obtain ⟨b, bs, rfl⟩ := List.exists_cons_of_ne_nil hne
    refine List.ext_getElem (by simp) fun i h1 h2 => ?_
    have read := readChain_writeBytes b bs vs 0 m hm (by omega) i h2
    rw [Nat.zero_add] at read
    simpa using read
  · exact read_writeBytes_frame chain addr vs 0 m hm fun o _ h => hne o (by omega)

/-- Settles O32: the frame end by `frameEndAt_commits` and `frameEndAt_discards`, the bytes in front of a record by
`frontBytes_commitRecord`, the check by `seqEntry_eq` and `seqJudge_cases`, the register by `foldl_takeFcs_covers`. -/
theorem frameEndJudgesTheFrame : Obligations.FrameEndJudgesTheFrame := by
  refine ⟨fun n a s => ?ends, fun n k v i s => ?checks, fun F reg bytes a => ?register⟩
  case ends =>
    intro l v ended counted ha hdue
    have act : Acts (.frameEnd n) s (frameEndAt n s) := acts_inTurn (fun _ => rfl) s
    refine ⟨fun hf => ?_, fun f hf => ⟨fun hk => ?_, fun k hk => ?_⟩⟩
    · rwa [frameEndAt_noFrame ha hdue hf] at act
    · rwa [frameEndAt_notStored ha hdue hf hk] at act
    intro x u q front y drops retro
    refine ⟨fun hdrops hretro => ?commit, fun hnot => ?discard⟩
    case commit =>
      rw [frameEndAt_commits ha hdue hf hk rfl hdrops hretro] at act
      have parts := frontBytes_commitRecord s n f k a.nbytes v q
      have length : (frontBytes (commitRecord s n f k a.nbytes v q) k f).length = front := by
        have ts : (commitRecord s n f k a.nbytes v q).ts = x.timestamp := recordFlags_ts _ _ _ _ _
        rw [length_frontBytes, ts]
      have fits : front ≤ 2048 := by
        have one (b : Bool) : bit b ≤ 1 := by cases b <;> decide
        have := one x.timestamp
        have := one f.marked
        omega
      have written (hm : MemOk s) :=
        writeBytes_reads hm k.chain (frontBytes (commitRecord s n f k a.nbytes v q) k f) (length ▸ fits)
      rw [length] at written
      refine ⟨_, act, rfl, fun hm hchain => ?_, fun hm addr hne => ?_⟩
      · obtain ⟨reads, -⟩ := written hm
        exact (reads hchain).trans parts
      · obtain ⟨-, frame⟩ := written hm
        exact frame addr hne
    case discard =>
      obtain ⟨sh, ev, trigs, e, hev⟩ := frameEndAt_discards ha hdue hf hk rfl hnot
      rw [e] at act
      refine ⟨_, act, rfl, hev, ?_, route_setRoute _ _ _, rfl, rfl, fun r hr => route_setRoute_ne _ _ hr,
        fun m hm => lane_setLane_ne s _ hm⟩
      refine (lane_setLane s n _).trans ?_
      cases f.marked <;> rfl
  case checks =>
    intro e w expected d moved told checked
    refine ⟨fun hgen => ?_, fun hi => ?_⟩
    · exact seqCheck_unchecked (by simp [seqEntry, hgen])
    have entry := seqEntry_eq (s := s) (l := s.lane n) (v := v) hi
    have outcome (hchecked : checked) := seqCheck_checked (entry.trans (if_pos hchecked))
    obtain ⟨found, gap, back⟩ := seqJudge_cases e w k.seq
    refine ⟨fun hnot => seqCheck_unchecked (entry.trans (if_neg hnot)), fun hchecked h => ?_,
      fun hchecked hsync hpos hlt => ?_, fun hchecked hsync hle => ?_⟩
    · obtain ⟨moves, -, -⟩ := outcome hchecked
      exact moves (found h)
    · obtain ⟨-, tells, -⟩ := outcome hchecked
      exact tells (gap hsync hpos hlt)
    · obtain ⟨-, -, tells⟩ := outcome hchecked
      exact tells (back hsync hle)
  case register =>
    intro w step byte all n
    have bytewise (reg : Word) (x : Byte) : crcByte F reg x = byte reg x := by
      simp only [crcByte, crcBit_eq]
      rfl
    obtain ⟨fcs, delay⟩ := foldl_takeFcs_covers (a.covers_nil F) bytes
    rw [funext₂ bytewise] at fcs
    exact ⟨bytewise reg, crcStart_eq F, fun _ => ⟨fcs, delay⟩, fcsVerdict_eq F a⟩

end Sys2Proof.Machine
end

section
/-! SUPPORT. Classification and admission (R53 to R59, R73 to R81, R97): the statement O31. -/

namespace Sys2Proof.Machine

/-! ### Marks that are lost (R49) -/

/-- The lane with k more marks lost. -/
def Lane.addLost (l : Lane) (k : Word) : Lane :=
  { l with ctr := l.ctr.set (laneCtrIdx .marksLost).val (l.counter .marksLost + k) }

theorem addLost_zero (l : Lane) : l.addLost 0 = l := by
  simp [Lane.addLost, Lane.counter]

theorem addLost_addLost (l : Lane) (j k : Word) : (l.addLost j).addLost k = l.addLost (j + k) := by
  simp [Lane.addLost, Lane.counter, add_assoc]

theorem counter_addLost (l : Lane) (k : Word) : (l.addLost k).counter .marksLost = l.counter .marksLost + k := by
  simp [Lane.addLost, Lane.counter]

theorem unmatched_addLost (l : Lane) (k : Word) : (l.addLost k).counter .unmatched = l.counter .unmatched := by
  simp [Lane.addLost, Lane.counter, laneCtrIdx]

theorem loseMarks_addLost (n : Fin 4) (marked : Bool) (s : State) :
    loseMarks n marked s = s.setLane n ((s.lane n).addLost (if marked then 1 else 0)) := by
  rw [loseMarks_setLane]
  cases marked with
  | false => exact congrArg (s.setLane n) (addLost_zero _).symm
  | true => rfl

/-! ### Evictions (R75) -/

/-- The blocks of a route's j oldest records. -/
def Route.oldestBlocks (x : Route) (j : Nat) : List Nat := (x.queue.take j).flatMap Record.chain

/-- How many of a route's j oldest records carry marks of lane m. -/
def Route.oldestMarks (x : Route) (j : Nat) (m : Fin 4) : Nat :=
  ((x.queue.take j).filter (fun y => y.lane == m && y.mark)).length

/-- What the eviction of route r's j oldest records changes from s to t. -/
structure EvictedBy (r : Fin 16) (j : Nat) (s t : State) : Prop where
  route : t.route r = { (s.route r).count .evicted j with queue := (s.route r).queue.drop j }
  routes : ∀ q, q ≠ r → t.route q = s.route q
  lane : ∀ m, t.lane m = (s.lane m).addLost (BitVec.ofNat 32 ((s.route r).oldestMarks j m))
  table : t.table = s.table
  tb : t.tb = s.tb
  buf : t.buf = { s.buf with free := s.buf.free ++ (s.route r).oldestBlocks j, shed := t.buf.shed }
  told : s.buf.shed = false → t.ev = s.ev ∧ t.buf.shed = false

theorem route_count_zero (x : Route) (c : RouteCtr) : x.count c 0 = x := by
  simp [Route.count, Route.counter]

theorem route_count_count (x : Route) (c : RouteCtr) (j k : Nat) : (x.count c j).count c k = x.count c (j + k) := by
  simp [Route.count, Route.counter, BitVec.ofNat_add, add_assoc]

theorem EvictedBy.refl (r : Fin 16) (s : State) : EvictedBy r 0 s s where
  route := by rw [route_count_zero, List.drop_zero]
  routes _ _ := rfl
  lane m := (addLost_zero _).symm
  table := rfl
  tb := rfl
  buf := by simp [Route.oldestBlocks]
  told h := ⟨rfl, h⟩

/-- The marks of a route's oldest record. -/
theorem oldestMarks_one {x : Route} {y : Record} {rest : List Record} (h : x.queue = y :: rest) (m : Fin 4) :
    BitVec.ofNat 32 (x.oldestMarks 1 m) = if m = y.lane ∧ y.mark = true then 1 else 0 := by
  rw [Route.oldestMarks, h, List.take_succ_cons, List.take_zero]
  by_cases carried : m = y.lane ∧ y.mark = true
  · obtain ⟨rfl, mark⟩ := carried
    simp [mark]
  · have skipped : (y.lane == m && y.mark) = false := by
      rw [← Bool.not_eq_true, Bool.and_eq_true, beq_iff_eq]
      exact fun both => carried ⟨both.1.symm, both.2⟩
    simp [skipped, carried]

/-- The eviction of a route's oldest record: the route counts it, and the record's blocks go free. -/
theorem evictOldest_frame {r : Fin 16} {s : State} {y : Record} {rest : List Record}
    (h : (s.route r).queue = y :: rest) : ∃ sh ev trigs,
    evictOldest r s =
      { (s.setRoute r { (s.route r).count .evicted 1 with queue := rest }).setLane y.lane
          ((s.lane y.lane).addLost (if y.mark then 1 else 0)) with
        buf := { s.buf with free := s.buf.free ++ y.chain, shed := sh }, ev := ev, trigs := trigs }
      ∧ (s.buf.shed = false → ev = s.ev ∧ sh = false) := by
  have evict : evictOldest r s = dropHead r true (bumpRoute r .evicted s) := by
    simp only [evictOldest, h]
  have counted : (bumpRoute r .evicted s).route r = (s.route r).count .evicted 1 := route_modRoute s r _
  have left : (bumpRoute r .evicted s).setRoute r { (s.route r).count .evicted 1 with queue := rest }
      = s.setRoute r { (s.route r).count .evicted 1 with queue := rest } := setRoute_setRoute s r _ _
  obtain ⟨sh, ev, trigs, e, hev⟩ := dropHead_frame r true (bumpRoute r .evicted s) y rest
    ((congrArg Route.queue counted).trans h)
  refine ⟨sh, ev, trigs, ?_, hev⟩
  rw [evict, e, loseMarks_addLost, counted, left]
  rfl

theorem evictOldest_evictedBy {r : Fin 16} {s : State} {y : Record} {rest : List Record}
    (h : (s.route r).queue = y :: rest) : EvictedBy r 1 s (evictOldest r s) := by
  obtain ⟨sh, ev, trigs, e, hev⟩ := evictOldest_frame h
  rw [e]
  constructor
  case route =>
    rw [h]
    exact route_setRoute s r _
  case routes => exact fun q hq => route_setRoute_ne s _ hq
  case lane =>
    intro m
    rw [oldestMarks_one h]
    refine (lane_setLane_ite _ y.lane m _).trans ?_
    by_cases hm : m = y.lane
    · subst hm
      simp
    · rw [if_neg hm, if_neg (fun both => hm both.1)]
      exact (addLost_zero _).symm
  case table => rfl
  case tb => rfl
  case buf => simp [Route.oldestBlocks, h]
  case told => exact hev

theorem oldestBlocks_add (x : Route) (j k : Nat) :
    x.oldestBlocks (j + k) = x.oldestBlocks j ++ ({ x with queue := x.queue.drop j } : Route).oldestBlocks k := by
  simp only [Route.oldestBlocks, List.take_add, List.flatMap_append]

theorem oldestMarks_add (x : Route) (j k : Nat) (m : Fin 4) :
    x.oldestMarks (j + k) m
      = x.oldestMarks j m + ({ x with queue := x.queue.drop j } : Route).oldestMarks k m := by
  simp only [Route.oldestMarks, List.take_add, List.filter_append, List.length_append]

/-- Evictions in a row. -/
theorem EvictedBy.trans {r : Fin 16} {j k : Nat} {s t u : State} (h : EvictedBy r j s t) (g : EvictedBy r k t u) :
    EvictedBy r (j + k) s u := by
  have queue : (t.route r).queue = (s.route r).queue.drop j := by rw [h.route]
  have blocks : (t.route r).oldestBlocks k = ({ s.route r with queue := (s.route r).queue.drop j } : Route).oldestBlocks k := by
    rw [h.route]
    rfl
  have marks (m : Fin 4) : (t.route r).oldestMarks k m
      = ({ s.route r with queue := (s.route r).queue.drop j } : Route).oldestMarks k m := by
    rw [h.route]
    rfl
  constructor
  case route =>
    rw [g.route, queue, List.drop_drop, h.route, ← route_count_count]
    rfl
  case routes => exact fun q hq => (g.routes q hq).trans (h.routes q hq)
  case lane =>
    intro m
    rw [g.lane, h.lane, addLost_addLost, ← BitVec.ofNat_add, marks, ← oldestMarks_add]
  case table => exact g.table.trans h.table
  case tb => exact g.tb.trans h.tb
  case buf =>
    rw [g.buf, h.buf, blocks, List.append_assoc, ← oldestBlocks_add]
  case told =>
    intro hs
    obtain ⟨ev, shed⟩ := h.told hs
    obtain ⟨ev', shed'⟩ := g.told shed
    exact ⟨ev'.trans ev, shed'⟩

/-- Evictions one by one, as many as there are records. -/
theorem iterate_evictedBy {r : Fin 16} {s : State} : ∀ j, j ≤ (s.route r).queue.length →
    EvictedBy r j s ((evictOldest r)^[j] s)
  | 0, _ => .refl r s
  | j + 1, hj => by
    have before := iterate_evictedBy j (Nat.le_of_succ_le hj)
    have left : (((evictOldest r)^[j] s).route r).queue = (s.route r).queue[j] :: (s.route r).queue.drop (j + 1) := by
      rw [before.route, List.drop_eq_getElem_cons hj]
    rw [Function.iterate_succ_apply']
    exact before.trans (evictOldest_evictedBy left)

theorem EvictedBy.free {r : Fin 16} {j : Nat} {s t : State} (h : EvictedBy r j s t) :
    t.buf.free = s.buf.free ++ (s.route r).oldestBlocks j := by rw [h.buf]

theorem EvictedBy.mem {r : Fin 16} {j : Nat} {s t : State} (h : EvictedBy r j s t) : t.buf.mem = s.buf.mem := by
  rw [h.buf]

theorem EvictedBy.marksLost {r : Fin 16} {j : Nat} {s t : State} (h : EvictedBy r j s t) (m : Fin 4) :
    (t.lane m).counter .marksLost
      = (s.lane m).counter .marksLost + BitVec.ofNat 32 ((s.route r).oldestMarks j m) := by
  rw [h.lane, counter_addLost]

/-- What the evictions leave of the route's records. -/
theorem EvictedBy.queue_length {r : Fin 16} {j : Nat} {s t : State} (h : EvictedBy r j s t) :
    (t.route r).queue.length = (s.route r).queue.length - j := by
  rw [h.route, List.length_drop]

/-- The evictions leave every frame in assembly as it is. -/
theorem EvictedBy.framesFor {r : Fin 16} {j : Nat} {s t : State} (h : EvictedBy r j s t) (q : Fin 16) :
    framesFor t q = framesFor s q := by
  have lane (m : Fin 4) : (t.lane m).assembling q = (s.lane m).assembling q := by rw [h.lane]; rfl
  simp only [Machine.framesFor, lane]

/-- The route holds fewer blocks by those that went free. -/
theorem EvictedBy.held {r : Fin 16} {j : Nat} {s t : State} (h : EvictedBy r j s t) :
    held t r + ((s.route r).oldestBlocks j).length = held s r := by
  have lane (m : Fin 4) : (t.lane m).chainFor r = (s.lane m).chainFor r := by rw [h.lane]; rfl
  have queue : ((s.route r).queue.map (fun x => x.chain.length)).sum
      = ((s.route r).oldestBlocks j).length + ((t.route r).queue.map (fun x => x.chain.length)).sum := by
    conv_lhs => rw [← List.take_append_drop j (s.route r).queue]
    rw [List.map_append, List.sum_append, h.route, Route.oldestBlocks, List.length_flatMap]
  simp only [Machine.held, lane]
  omega

/-! ### How far a row of evictions goes (R75, R76, R79) -/

/-- A row of evictions goes on while its test holds, and ends where it fails or nothing is queued. -/
theorem evictWhile_eq_iterate {more : State → Bool} {r : Fin 16} {j k : Nat} {s : State} (hle : j ≤ k)
    (hgo : ∀ i, i < j → more ((evictOldest r)^[i] s) = true ∧ (((evictOldest r)^[i] s).route r).queue ≠ [])
    (hstop : more ((evictOldest r)^[j] s) = false ∨ (((evictOldest r)^[j] s).route r).queue = []) :
    evictWhile more r k s = (evictOldest r)^[j] s := by
  induction j generalizing k s with
  | zero =>
    have stop : ¬(more s && !(s.route r).queue.isEmpty) = true := by
      rw [Function.iterate_zero, id_eq] at hstop
      rcases hstop with h | h <;> simp [h]
    cases k with
    | zero => rfl
    | succ k => exact if_neg stop
  | succ j ih =>
    obtain ⟨k, rfl⟩ := Nat.exists_eq_add_of_le' hle
    obtain ⟨test, queued⟩ := hgo 0 (Nat.succ_pos j)
    rw [Function.iterate_zero, id_eq] at test queued
    have go : (more s && !(s.route r).queue.isEmpty) = true := by simp [test, queued]
    exact (if_pos go).trans (ih (Nat.le_add_left j k) (fun i hi => hgo (i + 1) (Nat.succ_lt_succ hi)) hstop)

/-- The quota check of a route evicts its j oldest records (R76): none unless it is ARMED, and there as few as bring it
within its quota, or all of them. -/
theorem quotaEvict_eq {r : Fin 16} {B j : Nat} {s : State} (hj : j ≤ (s.route r).queue.length)
    (hother : (s.route r).st ≠ .armed → j = 0)
    (hgo : (s.route r).st = .armed →
      ∀ i, i < j → (s.route r).quota + ((s.route r).oldestBlocks i).length < held s r + B)
    (hstop : (s.route r).st = .armed → held s r + B ≤ (s.route r).quota + ((s.route r).oldestBlocks j).length
      ∨ j = (s.route r).queue.length) :
    quotaEvict r B s = (evictOldest r)^[j] s := by
  unfold quotaEvict
  by_cases armed : (s.route r).st = .armed
  · rw [if_pos armed]
    have quota (i : Nat) (hi : i ≤ j) : (((evictOldest r)^[i] s).route r).quota = (s.route r).quota := by
      rw [(iterate_evictedBy i (hi.trans hj)).route]
      rfl
    refine evictWhile_eq_iterate hj (fun i hi => ⟨?_, ?_⟩) ?_
    · have held := (iterate_evictedBy i (hi.le.trans hj)).held
      have exceeds := hgo armed i hi
      rw [decide_eq_true_eq, quota i hi.le]
      omega
    · have left := (iterate_evictedBy i (hi.le.trans hj)).queue_length
      exact List.ne_nil_of_length_pos (by omega)
    · have done := iterate_evictedBy j hj
      refine (hstop armed).imp (fun fits => ?_) (fun all => List.eq_nil_of_length_eq_zero ?_)
      · have held := done.held
        rw [decide_eq_false_iff_not, quota j le_rfl]
        omega
      · rw [done.queue_length]
        omega
  · rw [if_neg armed, hother armed]
    rfl

/-- The retention limit of a route that has lost its j oldest records takes it to its J oldest (R79): none more unless it
is ARMED, and there down to P - 1 records and frames. -/
theorem retainEvict_eq {r : Fin 16} {j J : Nat} {s : State} (hj : j ≤ J) (hJ : J ≤ (s.route r).queue.length)
    (hother : (s.route r).st ≠ .armed → J = j)
    (hgo : (s.route r).st = .armed →
      ∀ i, j ≤ i → i < J → (s.route r).pretrigLimit ≤ (s.route r).queue.length - i + framesFor s r)
    (hstop : (s.route r).st = .armed →
      (s.route r).queue.length - J + framesFor s r < (s.route r).pretrigLimit ∨ J = (s.route r).queue.length) :
    retainEvict r ((evictOldest r)^[j] s) = (evictOldest r)^[J] s := by
  have before := iterate_evictedBy (s := s) j (hj.trans hJ)
  have st : (((evictOldest r)^[j] s).route r).st = (s.route r).st := by
    rw [before.route]
    rfl
  have further (i : Nat) : (evictOldest r)^[i] ((evictOldest r)^[j] s) = (evictOldest r)^[i + j] s :=
    (Function.iterate_add_apply _ i j s).symm
  unfold retainEvict
  rw [st]
  by_cases armed : (s.route r).st = .armed
  · have limit (i : Nat) (hi : i ≤ J) : (((evictOldest r)^[i] s).route r).pretrigLimit = (s.route r).pretrigLimit := by
      rw [(iterate_evictedBy i (hi.trans hJ)).route]
      rfl
    have reach : (evictOldest r)^[J] s = (evictOldest r)^[J - j] ((evictOldest r)^[j] s) := by
      rw [further, Nat.sub_add_cancel hj]
    rw [if_pos armed, reach]
    refine evictWhile_eq_iterate ?_ (fun i hi => ?_) ?_
    · rw [before.queue_length]
      omega
    · have at_ := iterate_evictedBy (r := r) (s := s) (i + j) (by omega)
      have exceeds := hgo armed (i + j) (by omega) (by omega)
      rw [further]
      refine ⟨?_, List.ne_nil_of_length_pos ?_⟩
      · rwa [decide_eq_true_eq, limit _ (by omega), at_.queue_length, at_.framesFor]
      · rw [at_.queue_length]
        omega
    · have done := iterate_evictedBy J hJ
      rw [← reach]
      refine (hstop armed).imp (fun within => ?_) (fun all => List.eq_nil_of_length_eq_zero ?_)
      · rw [decide_eq_false_iff_not, limit J le_rfl, done.queue_length, done.framesFor]
        omega
      · rw [done.queue_length]
        omega
  · rw [if_neg armed, hother armed]

/-! ### Refusals (R58, R74, R76, R77, R81) -/

/-- The lane whose frame is dropped: its marks are lost (R49). -/
def Lane.dropFrame (l : Lane) (f : FrameCtx) : Lane :=
  ({ l with frame := some { f with fate := .dropped } } : Lane).addLost (if f.marked then 1 else 0)

theorem dropFrame_eq {n : Fin 4} {s : State} {f : FrameCtx} (hf : (s.lane n).frame = some f) :
    dropFrame n s = s.setLane n ((s.lane n).dropFrame f) := by
  simp only [dropFrame, hf, loseMarks_addLost, setFate, State.modLane, lane_setLane, setLane_setLane, Option.map_some]
  rfl

/-- What the drop of a frame leaves. -/
theorem dropFrame_reads {n : Fin 4} {s : State} {f : FrameCtx} (hf : (s.lane n).frame = some f) :
    let t := dropFrame n s
    (t.lane n).frame = some { f with fate := .dropped }
      ∧ (t.lane n).counter .unmatched = (s.lane n).counter .unmatched
      ∧ (t.lane n).counter .marksLost = (s.lane n).counter .marksLost + (if f.marked then 1 else 0)
      ∧ (∀ m, m ≠ n → t.lane m = s.lane m) ∧ t.table = s.table ∧ t.routes = s.routes ∧ t.buf = s.buf ∧ t.ev = s.ev := by
  intro t
  have ht : t = s.setLane n ((s.lane n).dropFrame f) := dropFrame_eq hf
  rw [ht, lane_setLane]
  exact ⟨rfl, unmatched_addLost _ _, counter_addLost _ _, fun m hm => lane_setLane_ne s _ hm, rfl, rfl, rfl, rfl⟩

/-- A refusal: the route counts it and the frame is dropped (R81). -/
theorem refuse_eq {n : Fin 4} {r : Fin 16} {s : State} {f : FrameCtx} (hf : (s.lane n).frame = some f)
    (c : RouteCtr) :
    refuse n r c s = (s.setRoute r ((s.route r).count c 1)).setLane n ((s.lane n).dropFrame f) :=
  dropFrame_eq (s := bumpRoute r c s) hf

/-- The state as the episodes of route r and of the buffer manager begin or go on: the quota episode, SHED and EXHAUSTED,
with what they tell and the lines they pulse (R76, R77). -/
def episodes (r : Fin 16) (quotaEp shed exhausted : Bool) (ev : Events) (trigs : Vector Trig 4) (s : State) : State :=
  { s.setRoute r { s.route r with quotaEp := quotaEp } with
    buf := { s.buf with shed := shed, exhausted := exhausted }, ev := ev, trigs := trigs }

/-- Where the quota episode stays as it is, so does the route. -/
theorem episodes_sameQuota (r : Fin 16) (shed exhausted : Bool) (ev : Events) (trigs : Vector Trig 4) (s : State) :
    episodes r (s.route r).quotaEp shed exhausted ev trigs s
      = { s with buf := { s.buf with shed := shed, exhausted := exhausted }, ev := ev, trigs := trigs } :=
  congrArg (fun u : State =>
    { u with buf := { s.buf with shed := shed, exhausted := exhausted }, ev := ev, trigs := trigs }) (setRoute_self s r)

theorem episodes_self (r : Fin 16) (s : State) :
    episodes r (s.route r).quotaEp s.buf.shed s.buf.exhausted s.ev s.trigs s = s := setRoute_self s r

/-- A refusal for QUOTA begins the route's episode, with 0x43 if it is new (R76). -/
theorem refuseQuota_eq (n : Fin 4) (r : Fin 16) (B : Nat) (s : State) :
    refuseQuota n r B s =
      refuse n r .refQuota
        (episodes r true s.buf.shed s.buf.exhausted
          (if (s.route r).quotaEp then s.ev
           else (post 0x43 (srcIdx r) (BitVec.ofNat 32 (held s r)) (packWord [(B, 0), (n.val, 16)]) s).ev)
          s.trigs s) := by
  unfold refuseQuota
  congr 1
  cases h : (s.route r).quotaEp with
  | true =>
    rw [if_pos rfl, if_pos rfl, ← h]
    exact (episodes_self r s).symm
  | false => rfl

/-- A refusal for THRESHOLD begins SHED or EXHAUSTED, by the class of the route, with its event and, for SHED, its
pulses if it is new (R77). -/
theorem refuseThreshold_eq (n : Fin 4) (r : Fin 16) (B : Nat) (s : State) :
    refuseThreshold n r B s =
      refuse n r .refThreshold
        (episodes r (s.route r).quotaEp (s.buf.shed || !(s.route r).high) (s.buf.exhausted || (s.route r).high)
          (if (if (s.route r).high then s.buf.exhausted else s.buf.shed) then s.ev
           else
            (post (if (s.route r).high then 0x42 else 0x40) (srcIdx r) (BitVec.ofNat 32 s.buf.free.length)
              (packWord [(B, 0), (n.val, 16)]) s).ev)
          (if s.buf.shed || (s.route r).high then s.trigs else (pulseSource 2 s).trigs) s) := by
  rw [episodes_sameQuota]
  unfold refuseThreshold
  dsimp only
  congr 1
  cases hh : (s.route r).high with
  | true =>
    cases he : s.buf.exhausted with
    | true =>
      have same : { s.buf with exhausted := true } = s.buf := by rw [← he]
      simp [same]
    | false => simp [post_eq]
  | false =>
    cases hs : s.buf.shed with
    | true =>
      have same : { s.buf with shed := true } = s.buf := by rw [← hs]
      simp [same]
    | false => simp [post_eq, pulseSource]

/-! ### The reservation (R80, R97) -/

/-- The frame budget of a route: an admission in RUNNING is counted, and the last one stops the route (R97). -/
theorem countBudget_eq (n : Fin 4) (r : Fin 16) (s : State) :
    countBudget n r s =
      (let x := s.route r
       let counts := x.st = .running ∧ x.budget ≠ 0
       { s.setRoute r
           { x with
             rbcnt := if counts then x.rbcnt + 1 else x.rbcnt
             st := if counts ∧ x.rbcnt + 1 = x.budget then .stopping else x.st } with
         ev :=
           if counts ∧ x.rbcnt + 1 = x.budget then
             (post 0x53 (srcIdx r) (BitVec.ofNat 32 x.budget) (BitVec.ofNat 32 n.val) s).ev
           else s.ev }) := by
  unfold countBudget
  dsimp only
  by_cases counts : (s.route r).st = .running ∧ (s.route r).budget ≠ 0
  · rw [if_pos counts, if_pos counts]
    by_cases last : (s.route r).rbcnt + 1 = (s.route r).budget
    · simp only [if_pos last, if_pos (And.intro counts last), enterStopping, modRoute_modRoute]
      rfl
    · have more : ¬(((s.route r).st = .running ∧ (s.route r).budget ≠ 0) ∧ (s.route r).rbcnt + 1 = (s.route r).budget) :=
        fun both => last both.2
      simp only [if_neg last, if_neg more]
      rfl
  · have idle : ¬(((s.route r).st = .running ∧ (s.route r).budget ≠ 0) ∧ (s.route r).rbcnt + 1 = (s.route r).budget) :=
      fun both => counts both.1
    simp only [if_neg counts, if_neg idle]
    exact (setRoute_self s r).symm

/-- The lane whose frame is admitted. -/
def Lane.withTicket (l : Lane) (f : FrameCtx) (k : Ticket) : Lane := { l with frame := some { f with fate := .admitted k } }

/-- The header bytes of an admitted frame are stored at their places in its chain (R80). -/
theorem storeBody_head {n : Fin 4} {s : State} {f : FrameCtx} {k : Ticket} {a : Assembly} {L : Nat}
    (hf : (s.lane n).frame = some f) (hk : f.fate = .admitted k) (ha : (s.lane n).asm = some a) (hL : a.len = some L)
    (bytes : List Byte) :
    storeBody n 0 bytes s =
      { s with
        buf :=
          { s.buf with
            mem :=
              Memory.writeBytes k.chain (bytes.take (storedLen (s.route k.route) (s.lane n) L))
                (bodyOffset (s.route k.route) f.marked) s.buf.mem } } := by
  simp only [storeBody, hf, ha, hk, hL, Nat.sub_zero, Nat.add_zero]

/-- The route of an admission: it is counted, its quota episode ends, and in RUNNING its budget counts it (R80, R97). -/
def Route.takeAdmission (x : Route) : Route :=
  let counts := x.st = .running ∧ x.budget ≠ 0
  { x.count .admitted 1 with
    quotaEp := false
    rbcnt := if counts then x.rbcnt + 1 else x.rbcnt
    st := if counts ∧ x.rbcnt + 1 = x.budget then .stopping else x.st }

/-- The reservation before its route is counted on: the frame has its chain, and a HIGH admission ends EXHAUSTED. -/
def reserved (n : Fin 4) (r : Fin 16) (f : FrameCtx) (k : Ticket) (B : Nat) (s : State) : State :=
  { (s.setLane n ((s.lane n).withTicket f k)).setRoute r { (s.route r).count .admitted 1 with quotaEp := false } with
    buf :=
      { s.buf with
        free := s.buf.free.drop B
        lowFree := min s.buf.lowFree (s.buf.free.length - B)
        exhausted := if (s.route r).high then false else s.buf.exhausted } }

/-- The budget's count of a reservation. -/
theorem countBudget_reserved (n : Fin 4) (r : Fin 16) (f : FrameCtx) (k : Ticket) (B : Nat) (s : State) :
    countBudget n r (reserved n r f k B s) =
      (let x := s.route r
       { (reserved n r f k B s).setRoute r x.takeAdmission with
         ev :=
           if (x.st = .running ∧ x.budget ≠ 0) ∧ x.rbcnt + 1 = x.budget then
             (post 0x53 (srcIdx r) (BitVec.ofNat 32 x.budget) (BitVec.ofNat 32 n.val) s).ev
           else s.ev }) := by
  have route : (reserved n r f k B s).route r = { (s.route r).count .admitted 1 with quotaEp := false } :=
    route_setRoute _ _ _
  rw [countBudget_eq, route]
  rfl

/-- The model's reservation takes its steps from there. -/
theorem reserve_reserved {n : Fin 4} {t : Ticket} {s : State} {f : FrameCtx} {a : Assembly}
    (hf : (s.lane n).frame = some f) (ha : (s.lane n).asm = some a) (B : Nat) :
    let k : Ticket := { t with chain := s.buf.free.take B, pretrig := (s.route t.route).st == .armed }
    reserve n t B s
      = flowEval t.route (storeBody n 0 a.head (countBudget n t.route (reserved n t.route f k B s))) := by
  intro k
  have fate : setFate n (.admitted k) (takeBlocks B s) = (takeBlocks B s).setLane n ((s.lane n).withTicket f k) := by
    have lane : (takeBlocks B s).lane n = s.lane n := rfl
    rw [setFate, State.modLane, lane, hf]
    rfl
  have ready : (if (s.route t.route).high then
        (let v := (setFate n (.admitted k) (takeBlocks B s)).modRoute t.route
            (fun x => ({ x with quotaEp := false } : Route).count .admitted 1)
         { v with buf := { v.buf with exhausted := false } })
      else (setFate n (.admitted k) (takeBlocks B s)).modRoute t.route
            (fun x => ({ x with quotaEp := false } : Route).count .admitted 1)) = reserved n t.route f k B s := by
    rw [fate, reserved]
    cases (s.route t.route).high <;> rfl
  have asm : ((countBudget n t.route (reserved n t.route f k B s)).lane n).asm = some a := by
    rw [countBudget_reserved]
    exact (congrArg Lane.asm (lane_setLane s n _)).trans ha
  unfold reserve
  dsimp only at ready ⊢
  rw [ready]
  simp only [asm]

/-- What the reservation leaves, up to its route's FLOW outputs: the frame with its ticket k, the route that counts it,
and the header bytes in the frame's chain (R80, R97). -/
def admission (n : Fin 4) (f : FrameCtx) (k : Ticket) (B L : Nat) (head : List Byte) (s : State) : State :=
  let x := s.route k.route
  { (s.setLane n ((s.lane n).withTicket f k)).setRoute k.route x.takeAdmission with
    buf :=
      { s.buf with
        free := s.buf.free.drop B
        lowFree := min s.buf.lowFree (s.buf.free.length - B)
        exhausted := if x.high then false else s.buf.exhausted
        mem := Memory.writeBytes k.chain (head.take (storedLen x (s.lane n) L)) (bodyOffset x f.marked) s.buf.mem }
    ev :=
      if (x.st = .running ∧ x.budget ≠ 0) ∧ x.rbcnt + 1 = x.budget then
        (post 0x53 (srcIdx k.route) (BitVec.ofNat 32 x.budget) (BitVec.ofNat 32 n.val) s).ev
      else s.ev }

/-- The reservation (R80): B blocks of the free list are the frame's chain, and behind the admission the FLOW outputs of
its route are evaluated. -/
theorem reserve_eq {n : Fin 4} {t : Ticket} {s : State} {f : FrameCtx} {a : Assembly} {L : Nat}
    (hf : (s.lane n).frame = some f) (ha : (s.lane n).asm = some a) (hL : a.len = some L) (B : Nat) :
    reserve n t B s
      = flowEval t.route
          (admission n f { t with chain := s.buf.free.take B, pretrig := (s.route t.route).st == .armed } B L a.head s) := by
  generalize hk : ({ t with chain := s.buf.free.take B, pretrig := (s.route t.route).st == .armed } : Ticket) = k
  have kroute : k.route = t.route := by rw [← hk]
  have lane : (countBudget n k.route (reserved n k.route f k B s)).lane n = (s.lane n).withTicket f k := by
    rw [countBudget_reserved]
    exact lane_setLane s n _
  have asm : ((s.lane n).withTicket f k).asm = some a := ha
  have route : (countBudget n k.route (reserved n k.route f k B s)).route k.route = (s.route k.route).takeAdmission := by
    rw [countBudget_reserved]
    exact route_setRoute _ _ _
  rw [reserve_reserved hf ha B, hk, ← kroute, storeBody_head (f := { f with fate := .admitted k }) (k := k) (L := L)
    (congrArg Lane.frame lane) rfl ((congrArg Lane.asm lane).trans asm) hL, route, lane, countBudget_reserved]
  simp only [reserved, State.setRoute, Vector.set_set]
  rfl

/-! ### The admission decision (R73 to R79) -/

/-- A frame at an open gate is decided on behind the evictions of the quota check (R73). -/
theorem admitFrame_open {n : Fin 4} {L : Nat} {t : Ticket} {s : State} {f : FrameCtx}
    (hf : (s.lane n).frame = some f) (hgate : gateRefusal s t.route = none) {B : Nat}
    (hB : blockNeed (recordLen (s.route t.route) (s.lane n) f.marked L) = B) :
    admitFrame n L t s =
      (let e := quotaEvict t.route B s
       if (e.route t.route).quota < held e t.route + B then refuseQuota n t.route B e
       else if e.buf.free.length < classLevel e t.route + B then refuseThreshold n t.route B e
       else reserve n t B (retainEvict t.route e)) := by
  simp only [admitFrame, hgate, hf, hB]

/-- The gate and the route's state refuse (R74). -/
theorem admitFrame_refused {n : Fin 4} {t : Ticket} {r : Fin 16} {s : State} {c : RouteCtr} (hr : t.route = r)
    (hgate : gateRefusal s r = some c) (L : Nat) : admitFrame n L t s = refuse n r c s := by
  subst hr
  simp only [admitFrame, hgate]

/-- An open gate: no quiesce is in progress or complete (R74). -/
theorem gateRefusal_gateOpen {s : State} (h : s.ctl.quiescing = false ∧ s.ctl.quiesced = false) (r : Fin 16) :
    ((s.route r).st = .disabled ∨ (s.route r).st = .stopping ∨ (s.route r).st = .aborting
        ∨ (s.route r).st = .armed ∧ (s.route r).pretrigLimit = 0 → gateRefusal s r = some .refClosed)
      ∧ ((s.route r).st = .halted → gateRefusal s r = some .refHalted)
      ∧ ((s.route r).st = .running ∨ (s.route r).st = .armed ∧ (s.route r).pretrigLimit ≠ 0 →
          gateRefusal s r = none) := by
  obtain ⟨quiescing, quiesced⟩ := h
  have shut : ¬(s.ctl.quiescing || s.ctl.quiesced) = true := by simp [quiescing, quiesced]
  rw [gateRefusal, if_neg shut]
  refine ⟨?_, fun st => by simp [st], ?_⟩
  · rintro (st | st | st | ⟨st, limit⟩)
    · simp [st]
    · simp [st]
    · simp [st]
    · simp [st, limit]
  · rintro (st | ⟨st, limit⟩)
    · simp [st]
    · simp [st, limit]

/-- A shut gate refuses whatever the route's state (R74). -/
theorem gateRefusal_gateShut {s : State} (h : ¬(s.ctl.quiescing = false ∧ s.ctl.quiesced = false)) (r : Fin 16) :
    gateRefusal s r = some .refQuiesce := by
  refine if_pos ?_
  by_contra shut
  exact h (by simpa using shut)

/-! ### Classification (R53 to R59) -/

theorem allEntries_eq : allEntries = List.finRange 32 := by decide

theorem accepts_iff (e : MatchEntry) (n : Fin 4) (t : Byte) :
    e.accepts n t = true ↔ e.valid = true ∧ e.lanes.getLsbD n.val = true ∧ t &&& e.tagMask = e.tagVal &&& e.tagMask := by
  simp [MatchEntry.accepts, and_assoc]

/-- The winner is the lowest-numbered entry that matches (R56). -/
theorem winner_eq_some {s : State} {n : Fin 4} {t : Byte} {i : Fin 32} (hi : (s.entry i).accepts n t = true)
    (hlow : ∀ j, j < i → ¬(s.entry j).accepts n t = true) : winner s n t = some i := by
  rw [winner, allEntries_eq, List.find?_eq_some_iff_getElem]
  refine ⟨hi, i.val, by simp, by simp, fun j hj => ?_⟩
  have low := hlow ⟨j, by omega⟩ hj
  simpa using low

theorem winner_eq_none {s : State} {n : Fin 4} {t : Byte} (h : ∀ i, ¬(s.entry i).accepts n t = true) :
    winner s n t = none :=
  List.find?_eq_none.mpr fun i _ => h i

/-- The lane at its header extent with L known (R46). -/
def Lane.knowLength (l : Lane) (a : Assembly) (L : Nat) : Lane :=
  { l with asm := some { a with len := some L, hdrDone := true } }

/-- The header extent of a delivered body of good length: its frame is classified (R42, R46). -/
theorem headerExtentAt_classifies {n : Fin 4} {s : State} {a : Assembly} {f : FrameCtx} {L : Nat}
    (ha : (s.lane n).asm = some a) (hf : (s.lane n).frame = some f) (hdue : (s.lane n).headerDue = true)
    (hL : (s.lane n).lengthMode = false ∧ L = (s.lane n).fixLen
      ∨ (s.lane n).lengthMode = true ∧ (L : Int) = (s.lane n).fieldLength a.head
        ∧ 4 ≤ L ∧ (s.lane n).hdrExtent ≤ L ∧ (s.lane n).fcsLen < L ∧ L ≤ 4096) :
    headerExtentAt n s = classify n L a.head (s.setLane n ((s.lane n).knowLength a L)) := by
  have known : headerKnown n L a.head s = classify n L a.head (s.setLane n ((s.lane n).knowLength a L)) := by
    have entered : s.modLane n (fun l => { l with asm := l.asm.map (fun a => { a with len := some L, hdrDone := true }) })
        = s.setLane n ((s.lane n).knowLength a L) := by
      rw [State.modLane, ha]
      rfl
    have delivered : ((s.lane n).knowLength a L).frame.isSome = true := congrArg Option.isSome hf
    unfold headerKnown
    dsimp only
    rw [entered, lane_setLane, if_pos delivered]
  rw [← known]
  obtain ⟨mode, rfl⟩ | ⟨mode, hL, hmin, hhdr, hfcs, hmax⟩ := hL
  · simp [headerExtentAt, hdue, ha, mode]
  · have good : (s.lane n).lengthBad L = false := by
      rw [← Bool.not_eq_true, lengthBad_iff]
      omega
    simp [headerExtentAt, hdue, ha, mode, ← hL, good]

/-- A frame that an entry wins: the entry counts it and says where it goes (R56 to R59). -/
theorem classify_entry {n : Fin 4} {head : List Byte} {s : State} {i : Fin 32}
    (h : winner s n (tagOf (s.lane n) head) = some i) (L : Nat) :
    classify n L head s =
      (let e := s.entry i
       let u := s.setEntry i { e with hits := e.hits + 1 }
       if e.discard then dropFrame n u
       else
         admitFrame n L
           { route := e.route, mIdx := BitVec.ofNat 8 i.val, seq := seqOf (s.lane n) head, gen := some e.gen
             seqChk := e.seqChk, chain := [], pretrig := false } u) := by
  simp only [classify, h]

/-- A frame that no entry wins goes where the lane's default says (R58, R59). -/
theorem classify_default {n : Fin 4} {head : List Byte} {s : State}
    (h : winner s n (tagOf (s.lane n) head) = none) (L : Nat) :
    classify n L head s =
      if (s.lane n).defDiscard then dropFrame n (bumpLane n .unmatched s)
      else
        admitFrame n L
          { route := (s.lane n).defRoute, mIdx := 0xFF, seq := seqOf (s.lane n) head, gen := none, seqChk := false
            chain := [], pretrig := false } s := by
  simp only [classify, h]

/-! ### What each outcome leaves -/

/-- The route's blocks and frames in assembly depend on the lanes' frames and its queue alone. -/
theorem held_congr {s t : State} (frames : ∀ m, (t.lane m).frame = (s.lane m).frame) {r : Fin 16}
    (queue : (t.route r).queue = (s.route r).queue) : held t r = held s r := by
  have chains (m : Fin 4) : (t.lane m).chainFor r = (s.lane m).chainFor r := by
    rw [Lane.chainFor, Lane.chainFor, frames]
  simp only [held, chains, queue]

theorem framesFor_congr {s t : State} (frames : ∀ m, (t.lane m).frame = (s.lane m).frame) (r : Fin 16) :
    framesFor t r = framesFor s r := by
  have assembling (m : Fin 4) : (t.lane m).assembling r = (s.lane m).assembling r := by
    rw [Lane.assembling, Lane.assembling, frames]
  simp only [framesFor, assembling]

/-- What a refusal behind j evictions leaves. -/
theorem refuse_reads {n : Fin 4} {r : Fin 16} {c : RouteCtr} {j : Nat} {s e : State} {f : FrameCtx}
    (hf : (s.lane n).frame = some f) (hc : c ≠ .evicted) (he : EvictedBy r j s e) (q sh ex : Bool) (ev : Events)
    (trigs : Vector Trig 4) :
    let t := refuse n r c (episodes r q sh ex ev trigs e)
    (t.lane n).frame = some { f with fate := .dropped }
      ∧ (t.route r).counter c = (s.route r).counter c + 1
      ∧ (t.route r).queue = (s.route r).queue.drop j
      ∧ (t.route r).counter .evicted = (s.route r).counter .evicted + BitVec.ofNat 32 j
      ∧ (∀ q, q ≠ r → t.route q = s.route q) ∧ t.table = s.table
      ∧ (∀ m, (t.lane m).counter .marksLost
          = (s.lane m).counter .marksLost + (if m = n ∧ f.marked = true then 1 else 0)
            + BitVec.ofNat 32 ((s.route r).oldestMarks j m))
      ∧ t.buf.free = s.buf.free ++ (s.route r).oldestBlocks j ∧ t.buf.mem = s.buf.mem
      ∧ (t.route r).st = (s.route r).st ∧ (t.route r).quotaEp = q
      ∧ t.buf = { e.buf with shed := sh, exhausted := ex } ∧ t.ev = ev ∧ t.trigs = trigs := by
  generalize hu : episodes r q sh ex ev trigs e = u
  have lanes (m : Fin 4) : u.lane m = e.lane m := by rw [← hu]; rfl
  have route : u.route r = { e.route r with quotaEp := q } := by
    rw [← hu]
    exact route_setRoute e r _
  have others (p : Fin 16) (hp : p ≠ r) : u.route p = e.route p := by
    rw [← hu]
    exact route_setRoute_ne e _ hp
  have frame : (u.lane n).frame = some f := by
    rw [lanes, he.lane]
    exact hf
  intro t
  have ht : t = (u.setRoute r ((u.route r).count c 1)).setLane n ((u.lane n).dropFrame f) := refuse_eq frame c
  have troute : t.route r = (u.route r).count c 1 := by
    rw [ht]
    exact route_setRoute u r _
  have tlane (m : Fin 4) : t.lane m = if m = n then (u.lane n).dropFrame f else u.lane m := by
    rw [ht]
    exact lane_setLane_ite _ n m _
  have evicted : (u.route r).counter .evicted = (s.route r).counter .evicted + BitVec.ofNat 32 j := by
    rw [route, he.route]
    exact route_counter_count_self (s.route r) .evicted j
  have other : (u.route r).counter c = (s.route r).counter c := by
    rw [route, he.route]
    exact route_counter_count_ne (s.route r) j hc
  refine ⟨?frame, ?counter, ?queue, ?evicted, fun p hp => ?routes, ?table, fun m => ?marks, ?free, ?mem, ?st, ?quota, ?buf,
    ?ev, ?trigs⟩
  case frame => rw [tlane, if_pos rfl]; rfl
  case counter => rw [troute, route_counter_count_self, other]; rfl
  case queue => rw [troute]; exact (congrArg Route.queue route).trans (by rw [he.route])
  case evicted => rw [troute, route_counter_count_ne _ _ hc.symm, evicted]
  case routes => rw [ht]; exact (route_setRoute_ne u _ hp).trans ((others p hp).trans (he.routes p hp))
  case table => rw [ht, ← hu]; exact he.table
  case marks =>
    have dropped : ((u.lane n).dropFrame f).counter .marksLost
        = (u.lane n).counter .marksLost + (if f.marked then 1 else 0) := counter_addLost _ _
    rw [tlane]
    by_cases hm : m = n
    · subst hm
      simp only [if_true, true_and]
      rw [dropped, lanes, he.marksLost, add_right_comm]
    · simp only [hm, if_false, false_and, lanes, he.marksLost, add_zero]
  case free => rw [ht, ← hu]; exact he.free
  case mem => rw [ht, ← hu]; exact he.mem
  case st => rw [troute]; exact (congrArg Route.st route).trans (by rw [he.route]; rfl)
  case quota => rw [troute]; exact congrArg Route.quotaEp route
  case buf => rw [ht, ← hu]; rfl
  case ev => rw [ht, ← hu]; rfl
  case trigs => rw [ht, ← hu]; rfl

/-- What an admission behind J evictions leaves. -/
theorem reserve_reads {n : Fin 4} {t : Ticket} {J B L : Nat} {s e : State} {f : FrameCtx} {a : Assembly}
    (hf : (s.lane n).frame = some f) (ha : (s.lane n).asm = some a) (hL : a.len = some L)
    (he : EvictedBy t.route J s e) :
    let x := s.route t.route
    let chain := (s.buf.free ++ x.oldestBlocks J).take B
    let counts := x.st = .running ∧ x.budget ≠ 0
    let u := reserve n t B e
    (u.lane n).frame = some { f with fate := .admitted { t with chain := chain, pretrig := x.st == .armed } }
      ∧ (u.route t.route).queue = x.queue.drop J
      ∧ (u.route t.route).counter .evicted = x.counter .evicted + BitVec.ofNat 32 J
      ∧ (∀ q, q ≠ t.route → u.route q = s.route q) ∧ u.table = s.table
      ∧ (∀ m, (u.lane m).counter .marksLost
          = (s.lane m).counter .marksLost + BitVec.ofNat 32 (x.oldestMarks J m))
      ∧ u.buf.free = (s.buf.free ++ x.oldestBlocks J).drop B
      ∧ u.buf.lowFree = min s.buf.lowFree u.buf.free.length
      ∧ u.buf.exhausted = (if x.high then false else s.buf.exhausted)
      ∧ (u.route t.route).counter .admitted = x.counter .admitted + 1 ∧ (u.route t.route).quotaEp = false
      ∧ (u.route t.route).rbcnt = (if counts then x.rbcnt + 1 else x.rbcnt)
      ∧ (u.route t.route).st = (if counts ∧ x.rbcnt + 1 = x.budget then .stopping else x.st)
      ∧ u.ev
          = (if counts ∧ x.rbcnt + 1 = x.budget then
              (post 0x53 (srcIdx t.route) (BitVec.ofNat 32 x.budget) (BitVec.ofNat 32 n.val) e).ev
            else e.ev)
      ∧ (∀ m, u.trig m
          = if (e.trig m).flowing && (e.trig m).route == t.route then (e.trig m).evalFlow (held u t.route)
            else e.trig m)
      ∧ u.buf.mem
          = Memory.writeBytes chain (a.head.take (storedLen x (s.lane n) L)) (bodyOffset x f.marked) s.buf.mem := by
  intro x chain counts u
  have route : e.route t.route = { x.count .evicted J with queue := x.queue.drop J } := he.route
  have st : (e.route t.route).st = x.st := by rw [route]; rfl
  have frame : (e.lane n).frame = some f := by rw [he.lane]; exact hf
  have asm : (e.lane n).asm = some a := by rw [he.lane]; exact ha
  have free : e.buf.free.take B = chain := by rw [he.free]
  have hu : u = flowEval t.route
      (admission n f { t with chain := chain, pretrig := x.st == .armed } B L a.head e) := by
    rw [← free, ← st]
    exact reserve_eq frame asm hL B
  have ulane (m : Fin 4) : u.lane m
      = if m = n then (e.lane n).withTicket f { t with chain := chain, pretrig := x.st == .armed } else e.lane m := by
    rw [hu]
    exact lane_setLane_ite e n m _
  have uroute : u.route t.route = (e.route t.route).takeAdmission := by
    rw [hu]
    exact route_setRoute _ _ _
  have ufree : u.buf.free = e.buf.free.drop B := by rw [hu]; rfl
  refine ⟨?frame, ?queue, ?evicted, fun q hq => ?routes, ?table, fun m => ?marks, ?free, ?lowFree, ?exhausted, ?admitted,
    ?quota, ?rbcnt, ?st, ?ev, fun m => ?trig, ?mem⟩
  case frame => rw [ulane, if_pos rfl]; rfl
  case queue => rw [uroute]; exact congrArg Route.queue route
  case evicted =>
    rw [uroute]
    refine (route_counter_count_ne (e.route t.route) 1 (by decide)).trans ?_
    rw [route]
    exact route_counter_count_self x .evicted J
  case routes => rw [hu]; exact (route_setRoute_ne _ _ hq).trans (he.routes q hq)
  case table => rw [hu]; exact he.table
  case marks =>
    have same : (u.lane m).counter .marksLost = (e.lane m).counter .marksLost := by
      rw [ulane]
      split
      next hm => rw [hm]; rfl
      next => rfl
    rw [same, he.marksLost]
  case free => rw [ufree, he.free]
  case lowFree =>
    have low : u.buf.lowFree = min e.buf.lowFree (e.buf.free.length - B) := by rw [hu]; rfl
    rw [low, ufree, List.length_drop, he.buf]
  case exhausted =>
    have ended : u.buf.exhausted = if (e.route t.route).high then false else e.buf.exhausted := by rw [hu]; rfl
    rw [ended, route, he.buf]
    rfl
  case admitted =>
    rw [uroute]
    refine (route_counter_count_self (e.route t.route) .admitted 1).trans ?_
    have before : (e.route t.route).counter .admitted = x.counter .admitted := by
      rw [route]
      exact route_counter_count_ne x J (by decide)
    rw [before]
    rfl
  case quota => rw [uroute]; rfl
  case rbcnt => rw [uroute, route]; rfl
  case st => rw [uroute, route]; rfl
  case ev =>
    have told : u.ev = if ((e.route t.route).st = .running ∧ (e.route t.route).budget ≠ 0)
          ∧ (e.route t.route).rbcnt + 1 = (e.route t.route).budget then
        (post 0x53 (srcIdx t.route) (BitVec.ofNat 32 (e.route t.route).budget) (BitVec.ofNat 32 n.val) e).ev
      else e.ev := by rw [hu]; rfl
    rw [told, route]
    rfl
  case trig => rw [hu]; exact getElem_mapVec _ _ _ _
  case mem =>
    have written : u.buf.mem = Memory.writeBytes chain (a.head.take (storedLen (e.route t.route) (e.lane n) L))
        (bodyOffset (e.route t.route) f.marked) e.buf.mem := by rw [hu]; rfl
    rw [written, he.mem, route, he.lane]
    rfl

/-! ### The outcomes of the decision (R76, R77, R79) -/

/-- With SHED at 0, or without an eviction, no event is told and SHED stays as it is (R78). -/
theorem iterate_told {r : Fin 16} {j : Nat} {s : State} (hj : j ≤ (s.route r).queue.length)
    (h : s.buf.shed = false ∨ j = 0) :
    ((evictOldest r)^[j] s).ev = s.ev ∧ ((evictOldest r)^[j] s).buf.shed = s.buf.shed := by
  rcases h with clear | rfl
  · obtain ⟨ev, shed⟩ := (iterate_evictedBy j hj).told clear
    exact ⟨ev, shed.trans clear.symm⟩
  · exact ⟨rfl, rfl⟩

/-- What is told behind evictions that tell nothing is told as if they had not been. -/
theorem post_iterate {r : Fin 16} {j : Nat} {s : State} (hj : j ≤ (s.route r).queue.length)
    (h : s.buf.shed = false ∨ j = 0) (c b : Byte) (x y : Word) :
    (post c b x y ((evictOldest r)^[j] s)).ev = (post c b x y s).ev := by
  obtain ⟨ev, -⟩ := iterate_told hj h
  exact post_ev_congr c b x y ev (congrArg Timebase.ref (iterate_evictedBy j hj).tb)

/-- The quota check of a frame that needs B blocks evicts the route's j oldest records one by one: only an ARMED route
evicts, and each time because it is over its quota (R76). -/
structure QuotaRow (r : Fin 16) (B j : Nat) (s : State) : Prop where
  le : j ≤ (s.route r).queue.length
  other : (s.route r).st ≠ .armed → j = 0
  go : (s.route r).st = .armed →
    ∀ i, i < j → (s.route r).quota + ((s.route r).oldestBlocks i).length < held s r + B

/-- The quota as the evictions leave it. -/
theorem quota_iterate {r : Fin 16} {j : Nat} {s : State} (hj : j ≤ (s.route r).queue.length) :
    (((evictOldest r)^[j] s).route r).quota = (s.route r).quota := by
  rw [(iterate_evictedBy j hj).route]
  rfl

/-- The class level as the evictions leave it. -/
theorem classLevel_iterate {r : Fin 16} {j : Nat} {s : State} (hj : j ≤ (s.route r).queue.length) :
    classLevel ((evictOldest r)^[j] s) r = classLevel s r := by
  have done := iterate_evictedBy j hj
  rw [classLevel, done.route, done.buf]
  rfl

section
variable {n : Fin 4} {L B j : Nat} {t : Ticket} {r : Fin 16} {s : State} {f : FrameCtx}

/-- A frame that does not fit its route's quota behind all evictions is refused for QUOTA. -/
theorem admitFrame_overQuota (hr : t.route = r) (hf : (s.lane n).frame = some f)
    (hgate : gateRefusal s r = none)
    (hB : blockNeed (recordLen (s.route r) (s.lane n) f.marked L) = B) (hrow : QuotaRow r B j s)
    (hall : (s.route r).st = .armed → j = (s.route r).queue.length)
    (hover : ¬held s r + B ≤ (s.route r).quota + ((s.route r).oldestBlocks j).length) :
    admitFrame n L t s = refuseQuota n r B ((evictOldest r)^[j] s) := by
  subst hr
  have held := (iterate_evictedBy j hrow.le).held
  rw [admitFrame_open hf hgate hB, quotaEvict_eq hrow.le hrow.other hrow.go fun armed => .inr (hall armed)]
  dsimp only
  rw [quota_iterate hrow.le, if_pos (by omega)]

/-- A frame within its quota that would take the free list below its class's level is refused for THRESHOLD. -/
theorem admitFrame_belowLevel (hr : t.route = r) (hf : (s.lane n).frame = some f)
    (hgate : gateRefusal s r = none)
    (hB : blockNeed (recordLen (s.route r) (s.lane n) f.marked L) = B) (hrow : QuotaRow r B j s)
    (hfits : held s r + B ≤ (s.route r).quota + ((s.route r).oldestBlocks j).length)
    (hlevel : s.buf.free.length + ((s.route r).oldestBlocks j).length < classLevel s r + B) :
    admitFrame n L t s = refuseThreshold n r B ((evictOldest r)^[j] s) := by
  subst hr
  have done := iterate_evictedBy j hrow.le
  have held := done.held
  rw [admitFrame_open hf hgate hB, quotaEvict_eq hrow.le hrow.other hrow.go fun _ => .inl hfits]
  dsimp only
  rw [quota_iterate hrow.le, if_neg (by omega), classLevel_iterate hrow.le, done.free, List.length_append, if_pos hlevel]

/-- A frame within its quota and above its class's level is admitted, behind the evictions of the retention limit. -/
theorem admitFrame_admits (hr : t.route = r) (hf : (s.lane n).frame = some f)
    (hgate : gateRefusal s r = none)
    (hB : blockNeed (recordLen (s.route r) (s.lane n) f.marked L) = B) (hrow : QuotaRow r B j s)
    (hfits : held s r + B ≤ (s.route r).quota + ((s.route r).oldestBlocks j).length)
    (hlevel : classLevel s r + B ≤ s.buf.free.length + ((s.route r).oldestBlocks j).length) {J : Nat}
    (hretain : retainEvict r ((evictOldest r)^[j] s) = (evictOldest r)^[J] s) :
    admitFrame n L t s = reserve n t B ((evictOldest r)^[J] s) := by
  subst hr
  have done := iterate_evictedBy j hrow.le
  have held := done.held
  rw [admitFrame_open hf hgate hB, quotaEvict_eq hrow.le hrow.other hrow.go fun _ => .inl hfits]
  dsimp only
  rw [quota_iterate hrow.le, if_neg (by omega), classLevel_iterate hrow.le, done.free, List.length_append,
    if_neg (Nat.not_lt.mpr hlevel), hretain]

end

/-- The header bytes that are stored read back, and no other byte changes (R68, R80). -/
theorem writeHeader_reads {m : Memory} (hm : m.wf = true) {chain : List Nat} (hchain : chain ≠ []) (head : List Byte)
    (stored front : Nat) (hfront : front ≤ 32) :
    (head.length ≤ 16 → ∀ (i : Nat) (h : i < head.length), i < stored →
        (Memory.writeBytes chain (head.take stored) front m).readChain chain (front + i) = head[i])
      ∧ ∀ addr, (∀ i, i < head.length → i < stored → chainAddr chain (front + i) ≠ some addr) →
        (Memory.writeBytes chain (head.take stored) front m).read addr = m.read addr := by
  refine ⟨fun hlen i h hi => ?_, fun addr hne => ?_⟩
  · obtain ⟨b, bs, rfl⟩ := List.exists_cons_of_ne_nil hchain
    have inside : i < (head.take stored).length := by rw [List.length_take]; omega
    rw [readChain_writeBytes b bs _ front m hm (by rw [List.length_take]; omega) i inside, List.getElem_take]
  · refine read_writeBytes_frame chain addr _ front m hm fun o hle hlt => ?_
    rw [List.length_take] at hlt
    have other := hne (o - front) (by omega) (by omega)
    rwa [Nat.add_sub_cancel' hle] at other

/-- A record takes at least one block (R71). -/
theorem blockNeed_pos {len : Nat} (h : 0 < len) : 0 < blockNeed len :=
  Nat.div_pos (by simp only [Config.blockBytes]; omega) (by decide)

/-- More evictions free no fewer blocks. -/
theorem oldestBlocks_length_mono (x : Route) {j J : Nat} (h : j ≤ J) :
    (x.oldestBlocks j).length ≤ (x.oldestBlocks J).length := by
  obtain ⟨d, rfl⟩ := Nat.exists_eq_add_of_le h
  rw [oldestBlocks_add, List.length_append]
  exact Nat.le_add_right _ _

/-! ### The base of the decision -/

/-- The state in which a frame's route decides: the frame's length is known, and the match table has counted its hit. -/
def decisionBase (n : Fin 4) (a : Assembly) (L : Nat) (table : Vector MatchEntry 32) (s : State) : State :=
  { s.setLane n ((s.lane n).knowLength a L) with table := table }

theorem decisionBase_lane (n : Fin 4) (a : Assembly) (L : Nat) (table : Vector MatchEntry 32) (s : State) (m : Fin 4) :
    (decisionBase n a L table s).lane m = if m = n then (s.lane n).knowLength a L else s.lane m :=
  lane_setLane_ite s n m _

theorem decisionBase_frame (n : Fin 4) (a : Assembly) (L : Nat) (table : Vector MatchEntry 32) (s : State) (m : Fin 4) :
    ((decisionBase n a L table s).lane m).frame = (s.lane m).frame := by
  rw [decisionBase_lane]
  split
  next h => rw [h]; rfl
  next => rfl

theorem decisionBase_counter (n : Fin 4) (a : Assembly) (L : Nat) (table : Vector MatchEntry 32) (s : State) (m : Fin 4)
    (c : LaneCtr) : ((decisionBase n a L table s).lane m).counter c = (s.lane m).counter c := by
  rw [decisionBase_lane]
  split
  next h => rw [h]; rfl
  next => rfl

/-- What a refusal behind j evictions leaves of the state before the frame was classified. -/
theorem refusal_reads {n : Fin 4} {a : Assembly} {L : Nat} {table : Vector MatchEntry 32} {r : Fin 16} {c : RouteCtr}
    {j : Nat} {s : State} {f : FrameCtx} (hf : (s.lane n).frame = some f) (hc : c ≠ .evicted)
    (hj : j ≤ (s.route r).queue.length) (q sh ex : Bool) (ev : Events) (trigs : Vector Trig 4) :
    let e := (evictOldest r)^[j] (decisionBase n a L table s)
    let t := refuse n r c (episodes r q sh ex ev trigs e)
    (t.lane n).frame = some { f with fate := .dropped }
      ∧ (t.route r).counter c = (s.route r).counter c + 1
      ∧ (t.route r).queue = (s.route r).queue.drop j
      ∧ (t.route r).counter .evicted = (s.route r).counter .evicted + BitVec.ofNat 32 j
      ∧ (∀ q, q ≠ r → t.route q = s.route q) ∧ t.table = table
      ∧ (∀ m, (t.lane m).counter .marksLost
          = (s.lane m).counter .marksLost + (if m = n ∧ f.marked = true then 1 else 0)
            + BitVec.ofNat 32 ((s.route r).oldestMarks j m))
      ∧ t.buf.free = s.buf.free ++ (s.route r).oldestBlocks j ∧ t.buf.mem = s.buf.mem
      ∧ (t.route r).st = (s.route r).st ∧ (t.route r).quotaEp = q
      ∧ t.buf = { e.buf with shed := sh, exhausted := ex } ∧ t.ev = ev ∧ t.trigs = trigs := by
  have frame := (decisionBase_frame n a L table s n).trans hf
  have done : EvictedBy r j (decisionBase n a L table s) ((evictOldest r)^[j] (decisionBase n a L table s)) :=
    iterate_evictedBy j hj
  have reads := refuse_reads frame hc done q sh ex ev trigs
  simp only [decisionBase_counter] at reads
  exact reads

/-- Settles O31: `classify_entry` and `classify_default` say where the frame goes; `admitFrame_refused`,
`admitFrame_overQuota`, `admitFrame_belowLevel` and `admitFrame_admits` decide it there, and `refusal_reads` and
`reserve_reads` say what each decision leaves. -/
theorem classificationAndAdmission : Obligations.ClassificationAndAdmission := by
  intro n a f L s l tag agrees wins hit lost dropped ha hf hdue hL
  have act : Acts (.headerExtent n) s (headerExtentAt n s) := acts_inTurn (fun _ => rfl) s
  rw [headerExtentAt_classifies ha hf hdue hL] at act
  have won {i : Fin 32} (h : wins i) :
      winner (s.setLane n (l.knowLength a L)) n
        (tagOf ((s.setLane n (l.knowLength a L)).lane n) a.head) = some i := by
    rw [lane_setLane]
    exact winner_eq_some ((accepts_iff _ _ _).mpr h.1) fun j hj hacc => h.2 j hj ((accepts_iff _ _ _).mp hacc)
  have unwon (h : ∀ i, ¬agrees (s.entry i)) :
      winner (s.setLane n (l.knowLength a L)) n
        (tagOf ((s.setLane n (l.knowLength a L)).lane n) a.head) = none := by
    rw [lane_setLane]
    exact winner_eq_none fun i hacc => h i ((accepts_iff _ _ _).mp hacc)
  refine ⟨fun unmatched table hcase => ?discards, fun k table hcase hseq => ?decides⟩
  case discards =>
    have lost_n : lost n = if f.marked then 1 else 0 := by simp [lost]
    obtain ⟨i, hwins, hdiscard, rfl, rfl⟩ | ⟨hnone, hdefault, rfl, rfl⟩ := hcase
    · have drops : ((s.setLane n (l.knowLength a L)).entry i).discard = true := hdiscard
      rw [classify_entry (won hwins)] at act
      dsimp only at act
      rw [if_pos drops] at act
      obtain ⟨frame, unmatched, marks, others, table, routes, buf, ev⟩ :=
        dropFrame_reads (s := decisionBase n a L (hit i) s) ((decisionBase_frame n a L (hit i) s n).trans hf)
      rw [decisionBase_counter] at unmatched marks
      refine ⟨_, act, frame, table, unmatched.trans (add_zero _).symm, marks.trans (congrArg _ lost_n.symm), fun m hm => ?_,
        routes, buf, ev⟩
      exact (others m hm).trans (lane_setLane_ne s _ hm)
    · have drops : (l.knowLength a L).defDiscard = true := hdefault
      rw [classify_default (unwon hnone), lane_setLane, if_pos drops] at act
      have lane : (bumpLane n .unmatched (s.setLane n (l.knowLength a L))).lane n
          = (l.knowLength a L).count .unmatched := by
        rw [bumpLane, lane_modLane, lane_setLane]
      obtain ⟨frame, unmatched, marks, others, table, routes, buf, ev⟩ := dropFrame_reads ((congrArg Lane.frame lane).trans hf)
      rw [lane] at unmatched marks
      refine ⟨_, act, frame, table, unmatched.trans (counter_count_self _ _), ?_, fun m hm => ?_, routes, buf, ev⟩
      · exact marks.trans (congr (congrArg _ (counter_count_ne _ (by decide))) lost_n.symm)
      · exact (others m hm).trans ((lane_modLane_ne _ _ hm).trans (lane_setLane_ne s _ hm))
  case decides =>
    have act : Acts (.headerExtent n) s
        (admitFrame n L { k with chain := [], pretrig := false } (decisionBase n a L table s)) := by
      obtain ⟨i, hwins, hdiscard, rfl, hroute, hidx, hgen, hchk⟩ | ⟨hnone, hdefault, rfl, hroute, hidx, hgen, hchk⟩ := hcase
      · have keeps : ¬((s.setLane n (l.knowLength a L)).entry i).discard = true := by simpa using hdiscard
        rw [classify_entry (won hwins)] at act
        dsimp only at act
        rw [if_neg keeps, lane_setLane] at act
        rw [hroute, hidx, hgen, hchk, hseq]
        exact act
      · have keeps : ¬(l.knowLength a L).defDiscard = true := by
          rw [Bool.not_eq_true]
          exact hdefault
        rw [classify_default (unwon hnone), lane_setLane, if_neg keeps] at act
        rw [hroute, hidx, hgen, hchk, hseq]
        exact act
    intro r x front stored B freed level quiet open_ toQuota fits detail ends marks refused
    let b : State := decisionBase n a L table s
    let t : Ticket := { k with chain := [], pretrig := false }
    have act : Acts (.headerExtent n) s (admitFrame n L t b) := act
    have hr : t.route = r := rfl
    have frame : (b.lane n).frame = some f := (decisionBase_frame n a L table s n).trans hf
    have need : blockNeed (recordLen (b.route r) (b.lane n) f.marked L) = B := by
      rw [decisionBase_lane, if_pos rfl]
      rfl
    have bheld : held b r = held s r := held_congr (decisionBase_frame n a L table s) rfl
    have bframes : framesFor b r = framesFor s r := framesFor_congr (decisionBase_frame n a L table s) r
    have admits (hopen : open_) : gateRefusal b r = none := by
      obtain ⟨hquiet, hst⟩ := hopen
      obtain ⟨-, -, none⟩ := gateRefusal_gateOpen (s := b) hquiet r
      exact none hst
    have row (j : Nat) (hopen : open_) (h : toQuota j) : QuotaRow r B j b := by
      obtain ⟨-, hst⟩ := hopen
      obtain ⟨le, running, armed⟩ := h
      refine ⟨le, fun hne => running (hst.resolve_right fun both => hne both.1), fun harmed i hi => ?_⟩
      rw [bheld]
      exact armed harmed i hi
    refine ⟨fun c hcase => ?gate, fun j hopen hrow hall hnot => ?quota, fun j hopen hrow hfits hlevel => ?threshold,
      fun j J hopen hrow hfits hlevel hjJ hJ hrunning hretain => ?admitted⟩
    case gate =>
      have closes : gateRefusal b r = some c ∧ c ≠ .evicted := by
        obtain ⟨hshut, rfl⟩ | ⟨hquiet, hst⟩ := hcase
        · exact ⟨gateRefusal_gateShut hshut r, by decide⟩
        · obtain ⟨closed, halted, -⟩ := gateRefusal_gateOpen (s := b) hquiet r
          obtain ⟨hst, rfl⟩ | ⟨hst, rfl⟩ := hst
          · exact ⟨closed hst, by decide⟩
          · exact ⟨halted hst, by decide⟩
      obtain ⟨refuses, hc⟩ := closes
      rw [admitFrame_refused hr refuses, ← episodes_self r b] at act
      obtain ⟨frame, counter, queue, evicted, routes, table, marks, free, mem, st, -, buf, ev, trigs⟩ :=
        refusal_reads (j := 0) (c := c) hf hc (Nat.zero_le _) _ _ _ _ _
      exact ⟨_, ⟨act, frame, counter, ⟨queue, evicted, routes, table⟩, marks, free, mem, st⟩, buf, ev, trigs⟩
    case quota =>
      have exceeds : ¬held b r + B ≤ (b.route r).quota + ((b.route r).oldestBlocks j).length := by rwa [bheld]
      rw [admitFrame_overQuota hr frame (admits hopen) need (row j hopen hrow) hall exceeds, refuseQuota_eq] at act
      obtain ⟨frame, counter, queue, evicted, routes, table, marks, free, mem, st, quota, -, ev, -⟩ :=
        refusal_reads (c := .refQuota) hf (by decide) hrow.1 _ _ _ _ _
      refine ⟨_, ⟨act, frame, counter, ⟨queue, evicted, routes, table⟩, marks, free, mem, st⟩, quota, fun hquiet => ?_⟩
      have done : EvictedBy r j b ((evictOldest r)^[j] b) := iterate_evictedBy j hrow.1
      have episode : (((evictOldest r)^[j] b).route r).quotaEp = x.quotaEp := by
        rw [done.route]
        rfl
      have left : held ((evictOldest r)^[j] b) r = held s r - (freed j).length :=
        Nat.eq_sub_of_add_eq (done.held.trans bheld)
      obtain ⟨told, -⟩ := iterate_told (s := b) hrow.1 hquiet
      refine ev.trans ?_
      rw [episode, left, post_iterate (s := b) hrow.1 hquiet, told]
      rfl
    case threshold =>
      have within : held b r + B ≤ (b.route r).quota + ((b.route r).oldestBlocks j).length := by rwa [bheld]
      rw [admitFrame_belowLevel hr frame (admits hopen) need (row j hopen hrow) within hlevel, refuseThreshold_eq] at act
      have done : EvictedBy r j b ((evictOldest r)^[j] b) := iterate_evictedBy j hrow.1
      have high : (((evictOldest r)^[j] b).route r).high = x.high := by
        rw [done.route]
        rfl
      have exhausted : ((evictOldest r)^[j] b).buf.exhausted = s.buf.exhausted := by
        rw [done.buf]
        rfl
      have length : ((evictOldest r)^[j] b).buf.free.length = s.buf.free.length + (freed j).length := by
        rw [done.free, List.length_append]
        rfl
      rw [high, exhausted, length] at act
      obtain ⟨frame, counter, queue, evicted, routes, table, marks, free, mem, st, -, buf, ev, trigs⟩ :=
        refusal_reads (c := .refThreshold) hf (by decide) hrow.1 _ _ _ _ _
      refine ⟨_, ⟨act, frame, counter, ⟨queue, evicted, routes, table⟩, marks, free, mem, st⟩, ?_, fun hquiet => ?_,
        fun hj hlow hclear => ?_⟩
      · rw [buf]
        cases x.high <;> simp
      · obtain ⟨told, shed⟩ := iterate_told (s := b) hrow.1 hquiet
        refine ev.trans ?_
        rw [post_iterate (s := b) hrow.1 hquiet, told, shed]
        rfl
      · subst hj
        refine trigs.trans ?_
        have begins : (s.buf.shed || x.high) = false := by rw [hclear, hlow]; rfl
        exact if_neg (by rw [Bool.not_eq_true]; exact begins)
    case admitted =>
      have within : held b r + B ≤ (b.route r).quota + ((b.route r).oldestBlocks j).length := by rwa [bheld]
      have retains : retainEvict r ((evictOldest r)^[j] b) = (evictOldest r)^[J] b := by
        refine retainEvict_eq hjJ hJ (fun hne => ?_) (fun armed => ?_) fun armed => ?_
        · obtain ⟨-, hst⟩ := hopen
          have none := hrunning (hst.resolve_right fun both => hne both.1)
          omega
        · obtain ⟨fewer, -⟩ := hretain armed
          rw [bframes]
          exact fewer
        · obtain ⟨-, enough⟩ := hretain armed
          rw [bframes]
          exact enough
      rw [admitFrame_admits hr frame (admits hopen) need (row j hopen hrow) within hlevel retains] at act
      have blane : b.lane n = l.knowLength a L := (decisionBase_lane n a L table s n).trans (if_pos rfl)
      have asm : (b.lane n).asm = some { a with len := some L, hdrDone := true } := by
        rw [blane]
        rfl
      obtain ⟨frame, queue, evicted, routes, table, marks, free, lowFree, exhausted, admitted, quota, rbcnt, st, ev, trig,
          mem⟩ := reserve_reads (t := t) (B := B) frame asm rfl (iterate_evictedBy (r := t.route) (s := b) J hJ)
      simp only [decisionBase_counter, b] at marks
      intro chain counts
      refine ⟨_, act, frame, ⟨queue, evicted, routes, table⟩, fun m => ?_, free, lowFree, exhausted, admitted, quota, rbcnt, st,
        fun hquiet => ?_, fun hnone m => ?_, fun hm => ?_⟩
      · exact (marks m).trans (congrArg (· + _) (add_zero _).symm)
      · obtain ⟨told, -⟩ := iterate_told (s := b) hJ hquiet
        refine ev.trans ?_
        rw [post_iterate (s := b) hJ hquiet, told]
        rfl
      · subst hnone
        exact trig m
      · have place : 16 ≤ front ∧ front ≤ 32 := by
          have one (b : Bool) : bit b ≤ 1 := by cases b <;> decide
          have := one x.timestamp
          have := one f.marked
          omega
        have hchain : chain ≠ [] := by
          have need : 0 < B := blockNeed_pos (by omega)
          have more : (freed j).length ≤ (freed J).length := oldestBlocks_length_mono x hjJ
          refine List.ne_nil_of_length_pos ?_
          rw [List.length_take, List.length_append]
          omega
        rw [blane] at mem
        have stores : (reserve n t B ((evictOldest r)^[J] b)).buf.mem
            = Memory.writeBytes chain (a.head.take stored) front s.buf.mem := mem
        have written := writeHeader_reads hm hchain a.head stored front place.2
        rw [← stores] at written
        exact written

end Sys2Proof.Machine
end

section
/-! SUPPORT. MATCH_WRITE (R60, R61): its operands, the entry it replaces and the route it refuses: the statement O45. -/

namespace Sys2Proof.Machine

/-- A field as a number is the number of its bits. -/
theorem fieldOf_eq_toNat_extractLsb' {w : Nat} (x : BitVec w) (lo len : Nat) :
    fieldOf x lo len = (x.extractLsb' lo len).toNat := by
  rw [fieldOf, BitVec.extractLsb'_toNat, Nat.shiftRight_eq_div_pow]

/-- An entry's number is a target of MATCH_WRITE (TABLE 10-1). -/
theorem targetOk_matchWrite (i : Fin 32) : targetOk 0x20 (BitVec.ofNat 8 i.val) = true := by
  revert i; decide

theorem entryOfTarget (i : Fin 32) : Fin.ofNat 32 (BitVec.ofNat 8 i.val).toNat = i := by
  revert i; decide

/-- The entry that argument 0 with ROUTE r and argument 1 write in place of e (R60, R61). -/
theorem rewrite_route (e : MatchEntry) {arg0 : Word} (arg1 : Word) {r : Fin 16}
    (hr : (arg0.extractLsb' 16 8).toNat = r.val) :
    e.rewrite arg0 arg1 =
      { valid := arg0.getLsbD 31, lanes := arg0.extractLsb' 24 4
        tagVal := arg0.extractLsb' 0 8, tagMask := arg0.extractLsb' 8 8, route := r
        discard := arg0.getLsbD 28, seqChk := arg0.getLsbD 29
        expected := if arg1.getLsbD 16 then arg1.extractLsb' 0 16 else 0
        synced := arg1.getLsbD 16, gen := e.gen + 1, hits := 0 } := by
  rw [MatchEntry.rewrite, fieldOf_eq_toNat_extractLsb', hr, Fin.ofNat_val_eq_self]

/-- MATCH_WRITE with a ROUTE field above 15 is refused. -/
theorem runMatchWrite_badRoute {c : Cmd} {s : State} (hroute : 15 < (c.arg0.extractLsb' 16 8).toNat) :
    runMatchWrite c s = endCmd c .badArg 0 s := by
  rw [← fieldOf_eq_toNat_extractLsb'] at hroute
  rw [runMatchWrite, if_pos hroute]

/-- MATCH_WRITE with a ROUTE field that names a route rewrites its entry. -/
theorem runMatchWrite_route {c : Cmd} {i : Fin 32} {s : State} (hi : Fin.ofNat 32 c.target.toNat = i)
    (hroute : (c.arg0.extractLsb' 16 8).toNat < 16) :
    runMatchWrite c s
      = endCmd c .ok (((s.entry i).gen + 1).setWidth 32) (s.setEntry i ((s.entry i).rewrite c.arg0 c.arg1)) := by
  rw [← fieldOf_eq_toNat_extractLsb'] at hroute
  rw [runMatchWrite, if_neg (by omega), hi]
  rfl

/-- Settles O45: the command step by `runCmd_ready`, then by the ROUTE field. -/
theorem matchWriteReplacesTheEntry : Obligations.MatchWriteReplacesTheEntry := by
  intro i c rest s hready hop htarget g
  have act : Acts .matchWrite s (runCmd 0x20 runMatchWrite s) := acts_inTurn (fun _ => rfl) s
  rw [runCmd_ready _ hready hop, hop, if_pos (htarget ▸ targetOk_matchWrite i)] at act
  refine ⟨fun r hr => ?written, fun hroute => ?refused⟩
  case written =>
    have target : Fin.ofNat 32 c.target.toNat = i := by rw [htarget, entryOfTarget]
    have written : Ready (s.setEntry i ((s.entry i).rewrite c.arg0 c.arg1)) c rest := hready
    rw [runMatchWrite_route target (hr ▸ r.isLt), endCmd_ready _ _ written, rewrite_route _ _ hr] at act
    exact act
  case refused => rwa [runMatchWrite_badRoute hroute, endCmd_ready _ _ hready] at act

end Sys2Proof.Machine
end

section
/-! SUPPORT. What leaves every block where it is and buffer memory as it is (R68, R69, R84, R85): all that admits,
commits, releases and frames nothing. One lemma per operation, in the order of the model. -/

namespace Sys2Proof.Machine

/-- What the places of blocks rest on in a lane (R35, R80): its state, whether a comparison is due, the fate of its
frame, and the phase and header extent of its body. -/
def Lane.framing (l : Lane) : LaneState × Bool × Option Fate × Option (Phase × Bool) :=
  (l.st, l.cmpDue, l.frame.map FrameCtx.fate, l.asm.map fun a => (a.phase, a.hdrDone))

/-- The framing of each lane, the queue of each route, the free list, buffer memory and RESET_BUSY are the same in t as
in s. -/
@[simp] abbrev KeepsBlocks (t s : State) : Prop :=
  mapVec Lane.framing t.lanes = mapVec Lane.framing s.lanes ∧ mapVec Route.queue t.routes = mapVec Route.queue s.routes
    ∧ t.buf.free = s.buf.free ∧ t.buf.mem = s.buf.mem ∧ t.ctl.resetBusy = s.ctl.resetBusy

theorem KeepsBlocks.refl (s : State) : KeepsBlocks s s := ⟨rfl, rfl, rfl, rfl, rfl⟩

theorem KeepsBlocks.trans {u t s : State} (h : KeepsBlocks u t) (k : KeepsBlocks t s) : KeepsBlocks u s := by
  obtain ⟨h1, h2, h3, h4, h5⟩ := h
  obtain ⟨k1, k2, k3, k4, k5⟩ := k
  exact ⟨h1.trans k1, h2.trans k2, h3.trans k3, h4.trans k4, h5.trans k5⟩

/-- A row of operations that each keep the blocks keeps them. -/
theorem foldl_keepsBlocks {α : Type} {f : State → α → State} (h : ∀ s a, KeepsBlocks (f s a) s) (l : List α)
    (s : State) : KeepsBlocks (l.foldl f s) s := by
  induction l generalizing s with
  | nil => exact .refl s
  | cons a l ih => exact (ih (f s a)).trans (h s a)

/-! ### One lane or route -/

@[simp] theorem framing_eq_iff {l m : Lane} :
    l.framing = m.framing ↔ l.st = m.st ∧ l.cmpDue = m.cmpDue ∧ l.frame.map FrameCtx.fate = m.frame.map FrameCtx.fate
      ∧ (l.asm.map fun a => (a.phase, a.hdrDone)) = m.asm.map fun a => (a.phase, a.hdrDone) := by
  simp [Lane.framing]

@[simp] theorem latchRate_framing (l : Lane) : l.latchRate.framing = l.framing := rfl

@[simp] theorem takeBit_framing (l : Lane) (b : Bool) : (l.takeBit b).framing = l.framing := by
  unfold Lane.takeBit
  dsimp only
  split <;> rfl

@[simp] theorem markBy_framing (l : Lane) (n : Fin 4) (t : DWord) : (l.markBy n t).framing = l.framing := by
  unfold Lane.markBy
  split
  · rfl
  · split <;> rfl

@[simp] theorem countTick_framing (l : Lane) : l.countTick.framing = l.framing := by
  unfold Lane.countTick
  split <;> rfl

@[simp] theorem withReg_framing (l : Lane) (reg : LaneReg) (v : Word) : (l.withReg reg v).framing = l.framing := by
  cases reg <;> rfl

/-- Neither the FCS register nor the bytes received decide where a body stands. -/
@[simp] theorem takeFcs_framing (a : Assembly) (F : Nat) (b : Byte) :
    (a.takeFcs F b).phase = a.phase ∧ (a.takeFcs F b).hdrDone = a.hdrDone := by
  unfold Assembly.takeFcs
  split
  · exact ⟨rfl, rfl⟩
  · split <;> exact ⟨rfl, rfl⟩

@[simp] theorem setLane_framing {s : State} {n : Fin 4} {l : Lane} (h : l.framing = (s.lane n).framing) :
    mapVec Lane.framing (s.setLane n l).lanes = mapVec Lane.framing s.lanes := mapVec_set_eq h

@[simp] theorem modLane_framing {s : State} {n : Fin 4} {f : Lane → Lane}
    (h : (f (s.lane n)).framing = (s.lane n).framing) :
    mapVec Lane.framing (s.modLane n f).lanes = mapVec Lane.framing s.lanes := mapVec_set_eq h

@[simp] theorem bumpLane_framing (n : Fin 4) (c : LaneCtr) (s : State) :
    mapVec Lane.framing (bumpLane n c s).lanes = mapVec Lane.framing s.lanes := modLane_framing rfl

@[simp] theorem setRoute_queue {s : State} {r : Fin 16} {x : Route} (h : x.queue = (s.route r).queue) :
    mapVec Route.queue (s.setRoute r x).routes = mapVec Route.queue s.routes := mapVec_set_eq h

@[simp] theorem modRoute_queue {s : State} {r : Fin 16} {f : Route → Route}
    (h : (f (s.route r)).queue = (s.route r).queue) :
    mapVec Route.queue (s.modRoute r f).routes = mapVec Route.queue s.routes := mapVec_set_eq h

@[simp] theorem bumpRoute_queue (r : Fin 16) (c : RouteCtr) (s : State) :
    mapVec Route.queue (bumpRoute r c s).routes = mapVec Route.queue s.routes := modRoute_queue rfl

theorem framing_of_lanes {s t : State} (h : mapVec Lane.framing t.lanes = mapVec Lane.framing s.lanes) (n : Fin 4) :
    (t.lane n).framing = (s.lane n).framing := eq_of_mapVec_eq h n

/-! ### Events, episodes, marks and route moves -/

theorem post_keepsBlocks (c b : Byte) (x y : Word) (s : State) : KeepsBlocks (post c b x y s) s :=
  ⟨rfl, rfl, rfl, rfl, rfl⟩

theorem flowEval_keepsBlocks (r : Fin 16) (s : State) : KeepsBlocks (flowEval r s) s := .refl s

@[simp] theorem shedTest_keepsBlocks (b : Bool) (s : State) : KeepsBlocks (shedTest b s) s := by
  unfold shedTest
  split
  · cases b <;> simp
  · simp

@[simp] theorem loseMarks_keepsBlocks (n : Fin 4) (m : Bool) (s : State) : KeepsBlocks (loseMarks n m s) s := by
  cases m <;> simp [loseMarks]

@[simp] theorem enterRunning_keepsBlocks (r : Fin 16) (s : State) : KeepsBlocks (enterRunning r s) s := by
  simp [enterRunning]

@[simp] theorem startRoute_keepsBlocks (r : Fin 16) (line : Option (Fin 4)) (s : State) :
    KeepsBlocks (startRoute r line s) s := by
  simp [startRoute]

@[simp] theorem enterStopping_keepsBlocks (r : Fin 16) (s : State) : KeepsBlocks (enterStopping r s) s := by
  simp [enterStopping]

@[simp] theorem triggerRoute_keepsBlocks (n : Fin 4) (t : Trig) (s : State) (r : Fin 16) :
    KeepsBlocks (triggerRoute n t s r) s := by
  unfold triggerRoute
  split
  · split <;> simp
  · split <;> simp
  · simp

@[simp] theorem countBudget_keepsBlocks (n : Fin 4) (r : Fin 16) (s : State) : KeepsBlocks (countBudget n r s) s := by
  unfold countBudget
  dsimp only
  split
  · split <;> simp
  · simp

@[simp] theorem setEntry_keepsBlocks (s : State) (i : Fin 32) (e : MatchEntry) :
    KeepsBlocks (s.setEntry i e) s := .refl s

@[simp] theorem seqCheck_keepsBlocks (n : Fin 4) (t : Ticket) (v : FcsVerdict) (s : State) :
    KeepsBlocks (seqCheck n t v s).1 s := by
  unfold seqCheck
  dsimp only
  split
  · simp
  · split <;> simp

/-! ### The lane receivers -/

/-- A bit enters the history and the tallies (R33, R35). -/
theorem modLane_takeBit_keepsBlocks (n : Fin 4) (b : Bool) (s : State) :
    KeepsBlocks (s.modLane n fun l => l.takeBit b) s :=
  ⟨modLane_framing (takeBit_framing _ b), rfl, rfl, rfl, rfl⟩

@[simp] theorem refuseWrite_keepsBlocks (report : Bool) (source : Byte) (offset : Nat) (data : Word) (s : State) :
    KeepsBlocks (refuseWrite report source offset data s) s := by
  cases report <;> simp [refuseWrite]

@[simp] theorem writeLinjc_keepsBlocks (n : Fin 4) (data : Word) (s : State) : KeepsBlocks (writeLinjc n data s) s := by
  unfold writeLinjc
  dsimp only
  split <;> simp

@[simp] theorem writeLinj_keepsBlocks (n : Fin 4) (data : Word) (s : State) : KeepsBlocks (writeLinj n data s) s := by
  unfold writeLinj
  dsimp only
  split
  · split <;> simp
  · simp

/-! ### The timebase and the trigger port -/

@[simp] theorem armedLoad_keepsBlocks (s : State) : KeepsBlocks (armedLoad s) s := by
  unfold armedLoad
  split <;> simp [loadEpoch]

@[simp] theorem actSync_keepsBlocks (s : State) : KeepsBlocks (actSync s) s := by
  unfold actSync
  dsimp only
  split <;> split <;> simp

@[simp] theorem sampleSync_keepsBlocks (level : Bool) (s : State) : KeepsBlocks (sampleSync level s) s := by
  unfold sampleSync acceptSync
  dsimp only
  split
  · simp
  · split
    · simp
    · split
      · split <;> simp
      · simp

@[simp] theorem syncMissingAt_keepsBlocks (s : State) : KeepsBlocks (syncMissingAt s) s := by
  unfold syncMissingAt
  split <;> simp

@[simp] theorem periodicTickAt_keepsBlocks (s : State) : KeepsBlocks (periodicTickAt s) s := by
  unfold periodicTickAt
  split <;> simp [mapVec_mapVec_eq latchRate_framing]

@[simp] theorem applyMarks_keepsBlocks (n : Fin 4) (s : State) : KeepsBlocks (applyMarks n s) s :=
  foldl_keepsBlocks (fun s k => by split <;> simp) _ s

@[simp] theorem applyRoutes_keepsBlocks (n : Fin 4) (s : State) : KeepsBlocks (applyRoutes n s) s := by
  unfold applyRoutes
  exact foldl_keepsBlocks (f := fun s r => triggerRoute n (s.trig n) s r)
    (fun s r => triggerRoute_keepsBlocks n (s.trig n) s r) _ s

@[simp] theorem actTrigger_keepsBlocks (n : Fin 4) (rising : Bool) (s : State) :
    KeepsBlocks (actTrigger n rising s) s := by
  unfold actTrigger
  dsimp only
  split <;> simp

@[simp] theorem sampleTrigger_keepsBlocks (n : Fin 4) (level : Bool) (s : State) :
    KeepsBlocks (sampleTrigger n level s) s := by
  unfold sampleTrigger acceptTrigger
  dsimp only
  split
  · split
    · simp
    · split
      · split <;> simp
      · simp
  · simp

@[simp] theorem writeTrig_keepsBlocks (n : Fin 4) (reg : TrigReg) (data : Word) (s : State) :
    KeepsBlocks (writeTrig n reg data s) s := by
  cases reg with
  | tgcfg =>
    simp only [writeTrig]
    split <;> simp [clearLineMarks]
  | tgarg => simp [writeTrig]

@[simp] theorem pulseEndAt_keepsBlocks (n : Fin 4) (s : State) : KeepsBlocks (pulseEndAt n s) s := by
  unfold pulseEndAt
  dsimp only
  split <;> simp

/-! ### Host accesses -/

@[simp] theorem hostRead_keepsBlocks (o : Nat) (s : State) : KeepsBlocks (hostRead o s) s := by
  unfold hostRead
  dsimp only
  split <;> simp

/-- A route's configuration words are not its queue. -/
@[simp] theorem routeWithReg_queue (t : Route) (reg : RouteReg) (v : Word) : (t.withReg reg v).queue = t.queue := by
  cases reg <;> rfl

@[simp] theorem writeRouteReg_keepsBlocks (r : Fin 16) (reg : RouteReg) (data : Word) (report : Bool) (s : State) :
    KeepsBlocks (writeRouteReg r reg data report s).1 s := by
  unfold writeRouteReg
  dsimp only
  split <;> simp

@[simp] theorem writeWindow_keepsBlocks (w : Fin 4) (reg : WindowReg) (data : Word) (report : Bool) (s : State) :
    KeepsBlocks (writeWindow w reg data report s).1 s := by
  unfold writeWindow
  split <;> simp

@[simp] theorem writeCrbase_keepsBlocks (h : BaseHalf) (data : Word) (report : Bool) (s : State) :
    KeepsBlocks (writeCrbase h data report s).1 s := by
  unfold writeCrbase
  split <;> simp

@[simp] theorem writeCrcfg_keepsBlocks (data : Word) (report : Bool) (s : State) :
    KeepsBlocks (writeCrcfg data report s).1 s := by
  unfold writeCrcfg
  dsimp only
  split
  · split
    · split <;> simp
    · simp
  · simp

@[simp] theorem writeRpost_keepsBlocks (r : Fin 16) (data : Word) (s : State) :
    KeepsBlocks (writeRpost r data s) s := by
  unfold writeRpost
  dsimp only
  split <;> simp

@[simp] theorem writeCrcons_keepsBlocks (data : Word) (s : State) : KeepsBlocks (writeCrcons data s) s := by
  unfold writeCrcons
  dsimp only
  split
  · split <;> simp
  · simp

@[simp] theorem writeIntstat_keepsBlocks (data : Word) (s : State) : KeepsBlocks (writeIntstat data s) s := by
  unfold writeIntstat
  dsimp only
  split <;> simp

@[simp] theorem writeCmpmod_keepsBlocks (data : Word) (s : State) : KeepsBlocks (writeCmpmod data s) s := by
  simp [writeCmpmod]

@[simp] theorem writeBshed_keepsBlocks (data : Word) (report : Bool) (s : State) :
    KeepsBlocks (writeBshed data report s) s := by
  simp [writeBshed]

@[simp] theorem offerCmd_keepsBlocks (c : Cmd) (s : State) : KeepsBlocks (offerCmd c s) s := by
  unfold offerCmd
  split <;> simp

@[simp] theorem refuseAccess_keepsBlocks (offset : BitVec 12) (write : Bool) (bytes : BitVec 4) (data : Word)
    (s : State) : KeepsBlocks (refuseAccess offset write bytes data s) s := by
  unfold refuseAccess
  cases write <;> simp only [Bool.false_eq_true, if_true, if_false]
  · split <;> simp
  · split <;> simp

/-! ### The delivery engine -/

@[simp] theorem fetch_keepsBlocks (r : Fin 16) (s : State) : KeepsBlocks (fetch r s) s := by
  unfold fetch
  dsimp only
  split <;> simp

@[simp] theorem readDone_keepsBlocks (r : Fin 16) (answer : ReadAnswer) (s : State) :
    KeepsBlocks (readDone r answer s) s := by
  unfold readDone
  split
  · simp [endOldRead]
  · split
    · split <;> simp [endRead]
    · simp

@[simp] theorem readTimeout_keepsBlocks (r : Fin 16) (s : State) : KeepsBlocks (readTimeout r s) s := by
  unfold readTimeout
  split
  · unfold timeOldRead
    dsimp only
    split <;> simp
  · split
    · split <;> simp [endRead]
    · simp

@[simp] theorem haltRoute_keepsBlocks (r : Fin 16) (f : DescFault) (idx : Nat) (s : State) :
    KeepsBlocks (haltRoute r f idx s) s := by
  simp [haltRoute]

@[simp] theorem openBuffer_keepsBlocks (r : Fin 16) (s : State) : KeepsBlocks (openBuffer r s) s := by
  unfold openBuffer
  split
  · split
    · simp
    · split <;> simp
  · simp

@[simp] theorem closeBuffer_keepsBlocks (r : Fin 16) (reason : Reason) (s : State) :
    KeepsBlocks (closeBuffer r reason s) s := by
  simp [closeBuffer]

@[simp] theorem startRecord_keepsBlocks (r : Fin 16) (b : Buffer) (s : State) :
    KeepsBlocks (startRecord r b s) s := by
  simp [startRecord]

@[simp] theorem tryClose_keepsBlocks (due : Bool) (reason : Reason) (r : Fin 16) (s : State) :
    KeepsBlocks (tryClose due reason r s) s := by
  unfold tryClose
  split
  · simp
  · split <;> simp

@[simp] theorem postEntry_keepsBlocks (e : Completion) (s : State) : KeepsBlocks (postEntry e s) s := .refl s

@[simp] theorem joinBacklog_keepsBlocks (e : Completion) (s : State) : KeepsBlocks (joinBacklog e s) s := by
  unfold joinBacklog
  dsimp only
  split <;> simp

/-- Making an entry keeps the blocks when what it does to the route does. -/
theorem makeEntry_keepsBlocks (e : Completion) {made : State → State} {s : State} (h : KeepsBlocks (made s) s) :
    KeepsBlocks (makeEntry e made s) s := by
  rcases makeEntry_cases e made s with ⟨eq, -⟩ | ⟨eq, -⟩ | ⟨eq, -⟩ <;> rw [eq]
  · exact (joinBacklog_keepsBlocks e _).trans h
  · exact (postEntry_keepsBlocks e _).trans h
  · exact .refl s

@[simp] theorem completeBuffer_keepsBlocks (r : Fin 16) (s : State) : KeepsBlocks (completeBuffer r s) s := by
  unfold completeBuffer
  split
  · split
    · split
      · simp
      · exact makeEntry_keepsBlocks _ (by simp [Route.countEntry, Route.count])
    · simp
  · simp

@[simp] theorem cancelOne_keepsBlocks (r : Fin 16) (s : State) : KeepsBlocks (cancelOne r s) s := by
  unfold cancelOne
  split
  · exact makeEntry_keepsBlocks _ (by simp [Route.cancelDone, Route.countEntry, Route.count])
  · simp

@[simp] theorem drainLoop_keepsBlocks (k : Nat) (s : State) : KeepsBlocks (drainLoop k s) s := by
  induction k generalizing s with
  | zero => exact .refl s
  | succ k ih =>
    unfold drainLoop
    split
    · exact .refl s
    · split
      · dsimp only
        split
        · simp
        · exact (ih _).trans (postEntry_keepsBlocks _ _)
      · exact .refl s

@[simp] theorem closeRoute_keepsBlocks (r : Fin 16) (how : Word) (s : State) :
    KeepsBlocks (closeRoute r how s) s := by
  simp [closeRoute]

@[simp] theorem enterQuiesced_keepsBlocks (s : State) : KeepsBlocks (enterQuiesced s) s := by
  simp [enterQuiesced]

/-! ### Commands -/

@[simp] theorem endCmd_keepsBlocks (c : Cmd) (res : Result) (b : Word) (s : State) :
    KeepsBlocks (endCmd c res b s) s := .refl s

@[simp] theorem snapLane_keepsBlocks (clear : Bool) (n : Fin 4) (s : State) :
    KeepsBlocks (snapLane clear n s) s := by
  cases clear <;> simp [snapLane]

@[simp] theorem snapRoute_keepsBlocks (clear : Bool) (r : Fin 16) (s : State) :
    KeepsBlocks (snapRoute clear r s) s := by
  cases clear <;> simp [snapRoute]

@[simp] theorem snapCounters_keepsBlocks (target : Nat) (clear : Bool) (s : State) :
    KeepsBlocks (snapCounters target clear s) s := by
  unfold snapCounters
  split
  · simp
  · split
    · simp
    · exact (foldl_keepsBlocks (fun s r => snapRoute_keepsBlocks clear r s) _ _).trans
        (foldl_keepsBlocks (fun s n => snapLane_keepsBlocks clear n s) _ _)

@[simp] theorem runSnapshot_keepsBlocks (c : Cmd) (s : State) : KeepsBlocks (runSnapshot c s) s := by
  simp [runSnapshot]

@[simp] theorem runUnknown_keepsBlocks (s : State) : KeepsBlocks (runUnknown s) s := by
  unfold runUnknown
  split
  · split <;> simp
  · simp

@[simp] theorem armRoute_keepsBlocks (r : Fin 16) (s : State) : KeepsBlocks (armRoute r s).1 s := by
  unfold armRoute
  split
  · split <;> simp
  all_goals simp

@[simp] theorem startCmd_keepsBlocks (r : Fin 16) (s : State) : KeepsBlocks (startCmd r s).1 s := by
  unfold startCmd
  split
  · simp
  · split
    · split <;> simp
    all_goals simp

@[simp] theorem stopCmd_keepsBlocks (r : Fin 16) (s : State) : KeepsBlocks (stopCmd r s).1 s := by
  unfold stopCmd
  split
  · simp
  · split <;> simp
  all_goals simp

@[simp] theorem resumeCmd_keepsBlocks (r : Fin 16) (s : State) : KeepsBlocks (resumeCmd r s).1 s := by
  unfold resumeCmd
  split
  · dsimp only
    split <;> simp
  · simp

@[simp] theorem flushCmd_keepsBlocks (r : Fin 16) (s : State) : KeepsBlocks (flushCmd r s).1 s := by
  unfold flushCmd
  split
  · split <;> simp
  · simp

@[simp] theorem runMatchWrite_keepsBlocks (c : Cmd) (s : State) : KeepsBlocks (runMatchWrite c s) s := by
  unfold runMatchWrite
  split <;> simp

@[simp] theorem runQuiesce_keepsBlocks (c : Cmd) (s : State) : KeepsBlocks (runQuiesce c s) s := by
  unfold runQuiesce
  split <;> simp

@[simp] theorem runUnquiesce_keepsBlocks (c : Cmd) (s : State) : KeepsBlocks (runUnquiesce c s) s := by
  unfold runUnquiesce
  split <;> simp

/-! ### The store controller -/

@[simp] theorem recordOutcome_keepsBlocks (o : LoadOutcome) (s : State) : KeepsBlocks (recordOutcome o s) s := by
  cases o <;> simp [recordOutcome, postOutcome]

@[simp] theorem endBoot_keepsBlocks (o : LoadOutcome) (s : State) : KeepsBlocks (endBoot o s) s := by
  simp [endBoot]

@[simp] theorem endStoreCmd_keepsBlocks (res : Result) (b : Word) (s : State) :
    KeepsBlocks (endStoreCmd res b s) s := by
  unfold endStoreCmd
  split <;> simp

@[simp] theorem endReload_keepsBlocks (o : LoadOutcome) (s : State) : KeepsBlocks (endReload o s) s := by
  simp [endReload]

@[simp] theorem endStoreWord_keepsBlocks (res : Result) (b : Word) (s : State) :
    KeepsBlocks (endStoreWord res b s) s := by
  simp [endStoreWord]

@[simp] theorem nextRead_keepsBlocks (word : Nat) (job : StoreJob) (s : State) :
    KeepsBlocks (nextRead word job s) s := .refl s

@[simp] theorem operationFails_keepsBlocks (word : Nat) (s : State) : KeepsBlocks (operationFails word s) s := by
  unfold operationFails
  split <;> simp

@[simp] theorem opFail_keepsBlocks (s : State) : KeepsBlocks (opFail s) s := by
  unfold opFail
  split
  · split <;> simp
  · simp

@[simp] theorem bootStart_keepsBlocks (s : State) : KeepsBlocks (bootStart s) s := by
  unfold bootStart
  split <;> simp

@[simp] theorem holdPort_keepsBlocks (word : Nat) (job : StoreJob) (s : State) :
    KeepsBlocks (holdPort word job s) s := .refl s

@[simp] theorem runStoreRead_keepsBlocks (c : Cmd) (s : State) : KeepsBlocks (runStoreRead c s) s := by
  unfold runStoreRead
  split <;> simp

@[simp] theorem runStoreWrite_keepsBlocks (c : Cmd) (s : State) : KeepsBlocks (runStoreWrite c s) s := by
  unfold runStoreWrite
  split
  · simp
  · split <;> simp

@[simp] theorem runStoreLock_keepsBlocks (c : Cmd) (s : State) : KeepsBlocks (runStoreLock c s) s := by
  unfold runStoreLock
  dsimp only
  split
  · simp
  · split
    · simp
    · split <;> simp

@[simp] theorem runStoreReload_keepsBlocks (c : Cmd) (s : State) : KeepsBlocks (runStoreReload c s) s := by
  unfold runStoreReload
  split <;> simp

/-! ### The interrupt unit and the end of a tick -/

@[simp] theorem expireAt_keepsBlocks (s : State) : KeepsBlocks (expireAt s) s := by
  unfold expireAt
  split <;> simp

@[simp] theorem releaseHeld_keepsBlocks (s : State) : KeepsBlocks (releaseHeld s) s := by
  unfold releaseHeld
  split <;> simp

@[simp] theorem messageAt_keepsBlocks (s : State) : KeepsBlocks (messageAt s) s := by
  unfold messageAt askMessage
  dsimp only
  split
  · split <;> simp
  · simp

@[simp] theorem evaluate_keepsBlocks (s : State) : KeepsBlocks (evaluate s) s := by
  simp [evaluate]

@[simp] theorem advanceTimers_keepsBlocks (s : State) : KeepsBlocks (advanceTimers s) s := by
  refine ⟨?_, mapVec_mapVec_eq fun _ => rfl, rfl, rfl, rfl⟩
  change mapVec Lane.framing (if s.ctl.resetBusy then s.lanes else mapVec Lane.countTick s.lanes) = _
  split
  · rfl
  · exact mapVec_mapVec_eq countTick_framing

end Sys2Proof.Machine
end

section
/-! SUPPORT. The account of blocks (R69, R84, R85): what a replaced lane or route changes in it, and what the invariant
says of one lane, which holds or does not hold by its framing (R45 to R47, R50, R177). -/

namespace Sys2Proof.Machine

/-! ### Counting blocks -/

/-- Two rows of lists that differ at one place hold the same once each takes the other's list of that place. -/
theorem flatMap_exchange {α β : Type} [DecidableEq α] [DecidableEq β] {l : List α} (hl : l.Nodup) {a : α} (ha : a ∈ l)
    {f g : α → List β} (h : ∀ b, b ≠ a → f b = g b) : (l.flatMap f ++ g a).Perm (l.flatMap g ++ f a) := by
  have rest : (l.erase a).flatMap f = (l.erase a).flatMap g :=
    List.flatMap_congr fun b hb => h b (hl.mem_erase_iff.mp hb).1
  have lhs : (l.flatMap f).Perm (f a ++ (l.erase a).flatMap g) := rest ▸ (List.perm_cons_erase ha).flatMap_right f
  have rhs : (l.flatMap g).Perm (g a ++ (l.erase a).flatMap g) := (List.perm_cons_erase ha).flatMap_right g
  rw [List.perm_iff_count] at *
  intro b
  have := lhs b
  have := rhs b
  simp only [List.count_append] at *
  omega

/-- The blocks of a route's queued records, oldest first. -/
def Route.chains (x : Route) : List Nat := x.queue.flatMap Record.chain

theorem usedBlocks_eq (s : State) :
    usedBlocks s
      = allLanes.flatMap (fun n => (s.lane n).blocks) ++ allRoutes.flatMap (fun r => (s.route r).chains) := rfl

/-- A replaced lane brings its blocks for those of the one before. -/
theorem usedBlocks_setLane (s : State) (n : Fin 4) (l : Lane) :
    (usedBlocks (s.setLane n l) ++ (s.lane n).blocks).Perm (usedBlocks s ++ l.blocks) := by
  have lanes := flatMap_exchange (l := allLanes) (by decide) (a := n) (by revert n; decide)
    (f := fun m => ((s.setLane n l).lane m).blocks) (g := fun m => (s.lane m).blocks)
    (fun m hm => by rw [lane_setLane_ne _ _ hm])
  rw [lane_setLane] at lanes
  simp only [usedBlocks_eq, setLane_route]
  rw [List.append_assoc, List.append_assoc]
  refine (List.perm_append_comm.append_left _).trans ?_
  refine .trans ?_ (List.perm_append_comm.append_left _)
  rw [← List.append_assoc, ← List.append_assoc]
  exact lanes.append_right _

/-- A replaced route brings its queued blocks for those of the one before. -/
theorem usedBlocks_setRoute (s : State) (r : Fin 16) (x : Route) :
    (usedBlocks (s.setRoute r x) ++ (s.route r).chains).Perm (usedBlocks s ++ x.chains) := by
  have routes := flatMap_exchange (l := allRoutes) (by decide) (a := r) (by revert r; decide)
    (f := fun q => ((s.setRoute r x).route q).chains) (g := fun q => (s.route q).chains)
    (fun q hq => by rw [route_setRoute_ne _ _ hq])
  rw [route_setRoute] at routes
  simp only [usedBlocks_eq, setRoute_lane, List.append_assoc]
  exact routes.append_left _

/-- The free list gives what the places in use gain and takes what they lose. -/
theorem perm_exchange {free free' used used' gained lost : List Nat} (hused : (used' ++ lost).Perm (used ++ gained))
    (hfree : (free' ++ gained).Perm (free ++ lost)) : (free' ++ used').Perm (free ++ used) := by
  rw [List.perm_iff_count] at *
  intro b
  have hu := hused b
  have hf := hfree b
  simp only [List.count_append] at *
  omega

/-! ### The lanes' side of the invariant (R45 to R47, R50, R177) -/

/-- What R69's invariant asks of one lane. -/
def LaneOk (busy : Bool) (l : Lane) : Prop := frameOk l = true ∧ (busy = true → laneHeld l = true)

theorem blocksOk_iff (s : State) :
    BlocksOk s ↔
      (∀ n, LaneOk s.ctl.resetBusy (s.lane n))
        ∧ (s.buf.free ++ usedBlocks s).Perm (List.range' 0 Config.numBlocks) := by
  simp only [BlocksOk, LaneOk]
  constructor
  · rintro ⟨frames, held, places⟩
    exact ⟨fun n => ⟨frames n, fun busy => held busy n⟩, places⟩
  · rintro ⟨lanes, places⟩
    exact ⟨fun n => (lanes n).1, fun busy n => (lanes n).2 busy, places⟩

/-- The chain a frame holds by its fate (R80). -/
def Fate.chain : Fate → List Nat
  | .admitted t => t.chain
  | _ => []

/-- The blocks of a lane are those of its frame's fate. -/
theorem blocks_eq (l : Lane) : l.blocks = (l.frame.map FrameCtx.fate).elim [] Fate.chain := by
  unfold Lane.blocks
  cases l.frame with
  | none => rfl
  | some f =>
    dsimp only
    rw [Option.map_some, Option.elim_some]
    cases f.fate <;> rfl

theorem blocks_of_frame {l : Lane} {f : FrameCtx} (h : l.frame = some f) : l.blocks = f.fate.chain := by
  rw [blocks_eq, h]
  rfl

theorem blocks_of_noFrame {l : Lane} (h : l.frame = none) : l.blocks = [] := by
  rw [blocks_eq, h]
  rfl

/-- A frame in assembly belongs to a lane in LOCKED or COAST that receives its body, and its fate is open up to the
header extent. -/
theorem frameOk_iff (l : Lane) :
    frameOk l = true ↔ ∀ fate, l.frame.map FrameCtx.fate = some fate →
      (l.st = .locked ∨ l.st = .coast)
        ∧ ∃ decided, (l.asm.map fun a => (a.phase, a.hdrDone)) = some (.body, decided)
          ∧ (fate = .undecided ∨ decided = true) := by
  unfold frameOk
  cases l.frame with
  | none => simp
  | some f =>
    cases l.asm with
    | none => simp
    | some a => cases hf : f.fate <;> cases hd : a.hdrDone <;> simp [hf, hd]

theorem laneHeld_iff (l : Lane) :
    laneHeld l = true ↔ (l.st = .off ∨ l.st = .search) ∧ l.frame = none ∧ l.asm = none ∧ l.cmpDue = false := by
  simp [laneHeld, and_assoc]

/-- The blocks a lane holds and what the invariant asks of it rest on its framing. -/
theorem blocks_congr {l m : Lane} (h : l.framing = m.framing) : l.blocks = m.blocks := by
  obtain ⟨-, -, fates, -⟩ := framing_eq_iff.mp h
  rw [blocks_eq, blocks_eq, fates]

theorem LaneOk.congr {busy : Bool} {l m : Lane} (h : l.framing = m.framing) (hm : LaneOk busy m) : LaneOk busy l := by
  obtain ⟨st, due, fates, bodies⟩ := framing_eq_iff.mp h
  have frame : l.frame = none ↔ m.frame = none := by
    rw [← Option.map_eq_none_iff (f := FrameCtx.fate), fates, Option.map_eq_none_iff]
  have asm : l.asm = none ↔ m.asm = none := by
    rw [← Option.map_eq_none_iff (f := fun a => (a.phase, a.hdrDone)), bodies, Option.map_eq_none_iff]
  rw [LaneOk, frameOk_iff, laneHeld_iff] at hm ⊢
  rwa [st, due, fates, bodies, frame, asm]

/-- A lane that frames nothing and compares nothing meets the invariant in OFF and in SEARCH, and in any state while no
device reset is busy. -/
theorem LaneOk.idle {busy : Bool} {l : Lane} (hframe : l.frame = none)
    (hheld : busy = true → (l.st = .off ∨ l.st = .search) ∧ l.asm = none ∧ l.cmpDue = false) : LaneOk busy l := by
  refine ⟨(frameOk_iff l).mpr fun fate h => by simp [hframe] at h, fun h => (laneHeld_iff l).mpr ?_⟩
  obtain ⟨st, asm, due⟩ := hheld h
  exact ⟨st, hframe, asm, due⟩

/-- Only a lane in LOCKED or COAST has a frame. -/
theorem LaneOk.noFrame {busy : Bool} {l : Lane} (h : LaneOk busy l) (hl : l.st ≠ .locked) (hc : l.st ≠ .coast) :
    l.frame = none := by
  cases hf : l.frame with
  | none => rfl
  | some f =>
    obtain ⟨st, -⟩ := (frameOk_iff l).mp h.1 f.fate (by rw [hf]; rfl)
    exact absurd st (by simp [hl, hc])

/-- A lane that frames a body, or has a comparison due, is not held by a device reset. -/
theorem LaneOk.notBusy {busy : Bool} {l : Lane} (h : LaneOk busy l) (hl : l.asm ≠ none ∨ l.cmpDue = true) :
    busy = false := by
  cases busy with
  | false => rfl
  | true =>
    obtain ⟨-, -, asm, due⟩ := (laneHeld_iff l).mp (h.2 rfl)
    simp [asm, due] at hl

/-- At an expected sync position no frame is in assembly (R47). -/
theorem LaneOk.atPosition {busy : Bool} {l : Lane} (h : LaneOk busy l) (hdue : l.positionDue = true) :
    l.frame = none ∧ busy = false := by
  unfold Lane.positionDue at hdue
  split at hdue
  next a ha =>
    have sync : a.phase = .sync := by simpa using (Bool.and_eq_true_iff.mp hdue).1
    refine ⟨?_, h.notBusy (.inl (by simp [ha]))⟩
    cases hf : l.frame with
    | none => rfl
    | some f =>
      obtain ⟨-, decided, body, -⟩ := (frameOk_iff l).mp h.1 f.fate (by rw [hf]; rfl)
      simp [ha, sync] at body
  next => exact absurd hdue Bool.false_ne_true

/-- At the header extent the lane receives a body on which nothing has been decided (R46). -/
theorem asm_of_headerDue {l : Lane} (h : l.headerDue = true) :
    (l.asm.map fun a => (a.phase, a.hdrDone)) = some (.body, false) := by
  unfold Lane.headerDue at h
  split at h
  next a ha =>
    simp only [Bool.and_eq_true, Bool.not_eq_true', beq_iff_eq] at h
    obtain ⟨⟨⟨phase, early⟩, -⟩, -⟩ := h
    rw [ha, Option.map_some, phase, early]
  next => exact absurd h Bool.false_ne_true

/-- At the header extent a frame is undecided (R46): the lane holds no block. -/
theorem LaneOk.atHeader {busy : Bool} {l : Lane} (h : LaneOk busy l) (hdue : l.headerDue = true) :
    l.blocks = [] ∧ busy = false := by
  have asm := asm_of_headerDue hdue
  refine ⟨?_, h.notBusy (.inl fun none => by simp [none] at asm)⟩
  cases hf : l.frame with
  | none => exact blocks_of_noFrame hf
  | some f =>
    obtain ⟨-, decided, body, fate⟩ := (frameOk_iff l).mp h.1 f.fate (by rw [hf]; rfl)
    have early : decided = false := by
      rw [asm, Option.some.injEq, Prod.mk.injEq] at body
      exact body.2.symm
    rw [blocks_of_frame hf, fate.resolve_right (by simp [early])]
    rfl

/-- A frame start in LOCKED or COAST (R45). -/
theorem startFrame_laneOk {l : Lane} (hst : l.st = .locked ∨ l.st = .coast) (ref : DWord) (coast : Bool) :
    LaneOk false (l.startFrame ref coast) :=
  ⟨(frameOk_iff _).mpr fun fate hf => ⟨hst, false, rfl, .inl (Option.some.inj hf).symm⟩, fun busy => by cases busy⟩

/-- The lane with the fate of its frame settled. -/
def Lane.withFate (l : Lane) (fate : Fate) : Lane := { l with frame := l.frame.map fun f => { f with fate := fate } }

theorem withFate_blocks {l : Lane} {f : FrameCtx} (hf : l.frame = some f) (fate : Fate) :
    (l.withFate fate).blocks = fate.chain := by
  rw [blocks_eq, Lane.withFate, hf]
  rfl

/-- Behind its header extent a frame may have any fate (R46). -/
theorem LaneOk.withFate {busy : Bool} {l : Lane} (h : LaneOk busy l)
    (body : (l.asm.map fun a => (a.phase, a.hdrDone)) = some (.body, true)) (fate : Fate) :
    LaneOk busy (l.withFate fate) := by
  have idle := h.notBusy (.inl fun none => by simp [none] at body)
  refine ⟨(frameOk_iff _).mpr fun _ hfate => ?_, fun busy => by simp [idle] at busy⟩
  cases hf : l.frame with
  | none => simp [Lane.withFate, hf] at hfate
  | some f =>
    obtain ⟨st, -⟩ := (frameOk_iff l).mp h.1 f.fate (by rw [hf]; rfl)
    exact ⟨st, true, body, .inr rfl⟩

/-- An admitted frame is behind its header extent. -/
theorem LaneOk.asm_of_admitted {busy : Bool} {l : Lane} (h : LaneOk busy l) {t : Ticket}
    (hf : l.frame.map FrameCtx.fate = some (.admitted t)) :
    (l.asm.map fun a => (a.phase, a.hdrDone)) = some (.body, true) := by
  obtain ⟨-, decided, body, fate⟩ := (frameOk_iff l).mp h.1 _ hf
  rw [body, fate.resolve_left nofun]

/-- A lane in SEARCH meets the invariant (R35). -/
theorem toSearch_laneOk (busy : Bool) (l : Lane) (cold : Bool) : LaneOk busy (l.toSearch cold) :=
  .idle rfl fun _ => ⟨.inr rfl, rfl, rfl⟩

end Sys2Proof.Machine
end

section
/-! SUPPORT. What moves a chain or writes buffer memory (R68, R80, R85), and the decision at the header extent, which
takes a frame's chain from the free list (R56 to R59, R73 to R81): what each leaves of both invariants. -/

namespace Sys2Proof.Machine

/-! ### States that stay as safe as they were -/

/-- If s meets the invariants of blocks and of buffer memory, so does t. -/
structure StaysOk (t s : State) : Prop where
  blocks : BlocksOk s → BlocksOk t
  mem : MemOk s → MemOk t

theorem StaysOk.refl (s : State) : StaysOk s s := ⟨id, id⟩

theorem StaysOk.trans {u t s : State} (h : StaysOk u t) (k : StaysOk t s) : StaysOk u s :=
  ⟨h.blocks ∘ k.blocks, h.mem ∘ k.mem⟩

/-- An operation that is carried out under a condition. -/
theorem StaysOk.ite {p : Prop} [Decidable p] {t s : State} (h : p → StaysOk t s) : StaysOk (if p then t else s) s := by
  split
  next hp => exact h hp
  next => exact .refl s

/-- A row of operations. -/
theorem foldl_staysOk {α : Type} {f : State → α → State} (h : ∀ s a, StaysOk (f s a) s) (l : List α) (s : State) :
    StaysOk (l.foldl f s) s := by
  induction l generalizing s with
  | nil => exact .refl s
  | cons a l ih => exact (ih (f s a)).trans (h s a)

theorem usedBlocks_congr {s t : State} (lanes : ∀ n, (t.lane n).blocks = (s.lane n).blocks)
    (queues : ∀ r, (t.route r).queue = (s.route r).queue) : usedBlocks t = usedBlocks s := by
  simp only [usedBlocks, lanes, queues]

/-- What keeps the blocks where they are keeps both invariants. -/
theorem StaysOk.of_keeps {s t : State} (h : KeepsBlocks t s) : StaysOk t s := by
  obtain ⟨lanes, queues, free, mem, busy⟩ := h
  have used : usedBlocks t = usedBlocks s :=
    usedBlocks_congr (fun n => blocks_congr (framing_of_lanes lanes n)) (eq_of_mapVec_eq queues)
  refine ⟨fun hs => ?_, fun hs => by rwa [MemOk, mem]⟩
  rw [blocksOk_iff] at hs ⊢
  rw [busy, free, used]
  exact ⟨fun n => (hs.1 n).congr (framing_of_lanes lanes n), hs.2⟩

/-! ### A lane or a route replaced -/

/-- Lane n replaced, and the free list with it: no block is lost and none is in two places. -/
theorem BlocksOk.setLane {s : State} (hs : BlocksOk s) {n : Fin 4} {l : Lane} {free : List Nat}
    (hl : LaneOk s.ctl.resetBusy l) (hfree : (free ++ l.blocks).Perm (s.buf.free ++ (s.lane n).blocks)) :
    BlocksOk { s.setLane n l with buf := { s.buf with free := free } } := by
  obtain ⟨lanes, places⟩ := (blocksOk_iff s).mp hs
  refine (blocksOk_iff _).mpr ⟨fun m => ?_, (perm_exchange (usedBlocks_setLane s n l) hfree).trans places⟩
  change LaneOk s.ctl.resetBusy ((s.setLane n l).lane m)
  rw [lane_setLane_ite]
  split
  · exact hl
  · exact lanes m

/-- Route r replaced, and the free list with it. -/
theorem BlocksOk.setRoute {s : State} (hs : BlocksOk s) {r : Fin 16} {x : Route} {free : List Nat}
    (hfree : (free ++ x.chains).Perm (s.buf.free ++ (s.route r).chains)) :
    BlocksOk { s.setRoute r x with buf := { s.buf with free := free } } := by
  obtain ⟨lanes, places⟩ := (blocksOk_iff s).mp hs
  exact (blocksOk_iff _).mpr ⟨lanes, (perm_exchange (usedBlocks_setRoute s r x) hfree).trans places⟩

/-- A lane replaced by one with the same blocks. -/
theorem setLane_staysOk {s : State} {n : Fin 4} {l : Lane}
    (h : LaneOk s.ctl.resetBusy (s.lane n) → LaneOk s.ctl.resetBusy l ∧ l.blocks = (s.lane n).blocks) :
    StaysOk (s.setLane n l) s := by
  refine ⟨fun hs => ?_, id⟩
  obtain ⟨hl, hb⟩ := h (((blocksOk_iff s).mp hs).1 n)
  exact hs.setLane (free := s.buf.free) hl (by rw [hb])

/-- A lane replaced by one with the same blocks, and more done that keeps them. -/
theorem StaysOk.of_setLane {s t : State} {n : Fin 4} {l : Lane} (ht : KeepsBlocks t (s.setLane n l))
    (h : LaneOk s.ctl.resetBusy (s.lane n) → LaneOk s.ctl.resetBusy l ∧ l.blocks = (s.lane n).blocks) : StaysOk t s :=
  (StaysOk.of_keeps ht).trans (setLane_staysOk h)

/-- The blocks of a chain join the free list, wherever the SHED test and the lines' FLOW states go. -/
theorem releaseChain_keepsBlocks {s t : State} (r : Fin 16) (chain : List Nat) (h : KeepsBlocks t s) :
    KeepsBlocks (releaseChain r chain t) { s with buf := { s.buf with free := s.buf.free ++ chain } } := by
  obtain ⟨lanes, queues, free, mem, busy⟩ := h
  simp [releaseChain, lanes, queues, free, mem, busy]

/-- A frame's chain is released as the frame leaves its lane or is withdrawn (R85, R101). -/
theorem releaseFrame_staysOk {s t : State} {n : Fin 4} {l : Lane} (r : Fin 16) (ht : KeepsBlocks t (s.setLane n l))
    (h : LaneOk s.ctl.resetBusy (s.lane n) → LaneOk s.ctl.resetBusy l) (hl : l.blocks = []) :
    StaysOk (releaseChain r (s.lane n).blocks t) s := by
  refine (StaysOk.of_keeps (releaseChain_keepsBlocks r _ ht)).trans ⟨fun hs => ?_, id⟩
  exact hs.setLane (h (((blocksOk_iff s).mp hs).1 n)) (by rw [hl, List.append_nil]; rfl)

/-- A record's chain is released as the record leaves its route's queue (R75, R85, R101, R120). -/
theorem releaseRecord_staysOk {s t : State} {r : Fin 16} {x : Route} {y : Record}
    (ht : KeepsBlocks t (s.setRoute r x)) (h : (x.chains ++ y.chain).Perm (s.route r).chains) :
    StaysOk (releaseChain r y.chain t) s := by
  refine (StaysOk.of_keeps (releaseChain_keepsBlocks r _ ht)).trans ⟨fun hs => hs.setRoute ?_, id⟩
  change (s.buf.free ++ y.chain ++ x.chains).Perm _
  rw [List.append_assoc]
  exact (List.perm_append_comm.trans h).append_left _

/-- The head record leaves its queue. -/
theorem dropHead_staysOk (r : Fin 16) (lost : Bool) (s : State) : StaysOk (dropHead r lost s) s := by
  unfold dropHead
  split
  next => exact .refl s
  next y rest hq =>
    refine releaseRecord_staysOk (loseMarks_keepsBlocks _ _ _) ?_
    rw [Route.chains, Route.chains, hq, List.flatMap_cons]
    exact List.perm_append_comm

/-- A write of an admitted frame's bytes (R46, R80). -/
theorem storeBody_staysOk (n : Fin 4) (k : Nat) (bytes : List Byte) (s : State) :
    StaysOk (storeBody n k bytes s) s := by
  unfold storeBody
  split
  · split
    · exact ⟨id, fun hm => wf_writeBytes _ _ _ _ hm⟩
    · exact .refl s
  · exact .refl s

/-! ### Evictions and refusals (R75 to R79, R81) -/

theorem evictOldest_staysOk (r : Fin 16) (s : State) : StaysOk (evictOldest r s) s := by
  unfold evictOldest
  split
  · exact .refl s
  · exact (dropHead_staysOk r true _).trans (.of_keeps (by simp))

theorem evictWhile_staysOk (more : State → Bool) (r : Fin 16) (k : Nat) (s : State) :
    StaysOk (evictWhile more r k s) s := by
  induction k generalizing s with
  | zero => exact .refl s
  | succ k ih =>
    unfold evictWhile
    exact .ite fun _ => (ih _).trans (evictOldest_staysOk r s)

theorem quotaEvict_staysOk (r : Fin 16) (B : Nat) (s : State) : StaysOk (quotaEvict r B s) s :=
  .ite fun _ => evictWhile_staysOk _ r _ s

theorem retainEvict_staysOk (r : Fin 16) (s : State) : StaysOk (retainEvict r s) s :=
  .ite fun _ => evictWhile_staysOk _ r _ s

/-- A released chain changes no lane's framing. -/
@[simp] theorem releaseChain_framing (r : Fin 16) (chain : List Nat) (s : State) :
    mapVec Lane.framing (releaseChain r chain s).lanes = mapVec Lane.framing s.lanes :=
  (releaseChain_keepsBlocks r chain (.refl s)).1

@[simp] theorem dropHead_framing (r : Fin 16) (lost : Bool) (s : State) :
    mapVec Lane.framing (dropHead r lost s).lanes = mapVec Lane.framing s.lanes := by
  unfold dropHead
  split <;> simp

@[simp] theorem evictWhile_framing (more : State → Bool) (r : Fin 16) (k : Nat) (s : State) :
    mapVec Lane.framing (evictWhile more r k s).lanes = mapVec Lane.framing s.lanes := by
  induction k generalizing s with
  | zero => rfl
  | succ k ih =>
    unfold evictWhile evictOldest
    split
    · rw [ih]
      split <;> simp
    · rfl

@[simp] theorem quotaEvict_framing (r : Fin 16) (B : Nat) (s : State) :
    mapVec Lane.framing (quotaEvict r B s).lanes = mapVec Lane.framing s.lanes := by
  unfold quotaEvict
  split <;> simp

@[simp] theorem retainEvict_framing (r : Fin 16) (s : State) :
    mapVec Lane.framing (retainEvict r s).lanes = mapVec Lane.framing s.lanes := by
  unfold retainEvict
  split <;> simp

/-- Lane n's frame stands at the decision of its header extent (R46, R73): it holds no block yet. -/
structure Lane.Deciding (l : Lane) : Prop where
  frame : l.frame ≠ none
  body : (l.asm.map fun a => (a.phase, a.hdrDone)) = some (.body, true)
  empty : l.blocks = []

/-- The state in which lane n's frame is decided on. -/
structure Decides (n : Fin 4) (s : State) : Prop where
  ok : BlocksOk s
  lane : (s.lane n).Deciding

theorem Decides.of_staysOk {n : Fin 4} {s t : State} (hs : Decides n s) (h : StaysOk t s)
    (hl : mapVec Lane.framing t.lanes = mapVec Lane.framing s.lanes) : Decides n t := by
  obtain ⟨ok, frame, body, empty⟩ := hs
  have framing := framing_of_lanes hl n
  obtain ⟨-, -, fates, bodies⟩ := framing_eq_iff.mp framing
  refine ⟨h.blocks ok, fun none => frame ?_, bodies.trans body, (blocks_congr framing).trans empty⟩
  rw [← Option.map_eq_none_iff (f := FrameCtx.fate), ← fates, none]
  rfl

theorem Decides.of_keeps {n : Fin 4} {s t : State} (hs : Decides n s) (h : KeepsBlocks t s) : Decides n t :=
  hs.of_staysOk (.of_keeps h) h.1

theorem setFate_eq (n : Fin 4) (fate : Fate) (s : State) :
    setFate n fate s = s.setLane n ((s.lane n).withFate fate) := rfl

/-- The fate that the decision gives the frame. -/
theorem Decides.withFate {n : Fin 4} {s : State} (hs : Decides n s) (fate : Fate) :
    LaneOk s.ctl.resetBusy ((s.lane n).withFate fate) ∧ ((s.lane n).withFate fate).blocks = fate.chain := by
  obtain ⟨ok, frame, body, -⟩ := hs
  obtain ⟨f, hf⟩ := Option.ne_none_iff_exists'.mp frame
  exact ⟨(((blocksOk_iff s).mp ok).1 n).withFate body fate, withFate_blocks hf fate⟩

/-- A frame that is discarded or refused never held a block (R58, R81). -/
theorem Decides.dropFrame {n : Fin 4} {s : State} (hs : Decides n s) : BlocksOk (dropFrame n s) := by
  obtain ⟨lane, blocks⟩ := hs.withFate .dropped
  have dropped : BlocksOk (setFate n .dropped s) := by
    rw [setFate_eq]
    exact (setLane_staysOk fun _ => ⟨lane, by rw [blocks, hs.lane.empty]; rfl⟩).blocks hs.ok
  unfold Sys2Proof.Machine.dropFrame
  split
  · exact (StaysOk.of_keeps (loseMarks_keepsBlocks _ _ _)).blocks dropped
  · exact hs.ok

theorem Decides.refuse {n : Fin 4} {s : State} (hs : Decides n s) (r : Fin 16) (c : RouteCtr) :
    BlocksOk (refuse n r c s) :=
  (hs.of_keeps (t := bumpRoute r c s) (by simp)).dropFrame

theorem Decides.refuseQuota {n : Fin 4} {s : State} (hs : Decides n s) (r : Fin 16) (B : Nat) :
    BlocksOk (refuseQuota n r B s) :=
  Decides.refuse (hs.of_keeps (by split <;> simp)) r _

theorem Decides.refuseThreshold {n : Fin 4} {s : State} (hs : Decides n s) (r : Fin 16) (B : Nat) :
    BlocksOk (refuseThreshold n r B s) :=
  Decides.refuse (hs.of_keeps (by split <;> split <;> simp)) r _

/-- What the reservation makes of the ticket (R80): its chain comes from the head of the free list. -/
def reservedTicket (t : Ticket) (B : Nat) (s : State) : Ticket :=
  { t with chain := s.buf.free.take B, pretrig := (s.route t.route).st == .armed }

/-- Behind the reserved chain, a reservation counts and writes body bytes (R80, R97). -/
theorem reserve_staysOk (n : Fin 4) (t : Ticket) (B : Nat) (s : State) :
    StaysOk (reserve n t B s) (setFate n (.admitted (reservedTicket t B s)) (takeBlocks B s)) := by
  have counted (u : State) :
      mapVec Route.queue (u.modRoute t.route (fun x => ({ x with quotaEp := false } : Route).count .admitted 1)).routes
        = mapVec Route.queue u.routes := modRoute_queue rfl
  unfold reserve
  dsimp only
  refine (StaysOk.of_keeps (flowEval_keepsBlocks _ _)).trans ((storeBody_staysOk _ _ _ _).trans (.of_keeps ?_))
  cases (s.route t.route).high <;> simp [counted, reservedTicket]

theorem Decides.reserve {n : Fin 4} {s : State} (hs : Decides n s) (t : Ticket) (B : Nat) :
    BlocksOk (reserve n t B s) := by
  obtain ⟨lane, blocks⟩ := hs.withFate (.admitted (reservedTicket t B s))
  have taken : BlocksOk
      { s.setLane n ((s.lane n).withFate (.admitted (reservedTicket t B s))) with
        buf := { s.buf with free := s.buf.free.drop B } } := by
    refine hs.ok.setLane lane ?_
    rw [blocks, hs.lane.empty, List.append_nil]
    exact List.perm_append_comm.trans (by rw [Fate.chain, reservedTicket, List.take_append_drop])
  exact (reserve_staysOk n t B s).blocks ((StaysOk.of_keeps ⟨rfl, rfl, rfl, rfl, rfl⟩).blocks taken)

/-! ### Admission and classification (R56 to R59, R73) -/

theorem Decides.admitFrame {n : Fin 4} {s : State} (hs : Decides n s) (L : Nat) (t : Ticket) :
    BlocksOk (admitFrame n L t s) := by
  unfold Sys2Proof.Machine.admitFrame
  dsimp only
  generalize blockNeed _ = B
  cases gateRefusal s t.route with
  | some c => exact hs.refuse t.route c
  | none =>
    have evicted := hs.of_staysOk (quotaEvict_staysOk t.route B s) (by simp)
    dsimp only
    split
    · exact evicted.refuseQuota t.route B
    · split
      · exact evicted.refuseThreshold t.route B
      · exact (evicted.of_staysOk (retainEvict_staysOk t.route _) (by simp)).reserve t B

theorem Decides.classify {n : Fin 4} {s : State} (hs : Decides n s) (L : Nat) (head : List Byte) :
    BlocksOk (classify n L head s) := by
  unfold Sys2Proof.Machine.classify
  dsimp only
  split
  next i _ =>
    have hit (e : MatchEntry) : Decides n (s.setEntry i e) := hs.of_keeps (setEntry_keepsBlocks s i e)
    split
    · exact (hit _).dropFrame
    · exact (hit _).admitFrame L _
  · split
    · exact (hs.of_keeps (t := bumpLane n .unmatched s) (by simp)).dropFrame
    · exact hs.admitFrame L _

/-- A frame that is not admitted writes no byte. -/
@[simp] theorem dropFrame_mem (n : Fin 4) (s : State) : (dropFrame n s).buf.mem = s.buf.mem := by
  unfold dropFrame
  split <;> simp

@[simp] theorem refuse_mem (n : Fin 4) (r : Fin 16) (c : RouteCtr) (s : State) :
    (refuse n r c s).buf.mem = s.buf.mem := by
  simp [refuse]

@[simp] theorem refuseQuota_mem (n : Fin 4) (r : Fin 16) (B : Nat) (s : State) :
    (refuseQuota n r B s).buf.mem = s.buf.mem := by
  unfold refuseQuota
  split <;> simp

@[simp] theorem refuseThreshold_mem (n : Fin 4) (r : Fin 16) (B : Nat) (s : State) :
    (refuseThreshold n r B s).buf.mem = s.buf.mem := by
  unfold refuseThreshold
  split <;> split <;> simp

theorem reserve_memOk (n : Fin 4) (t : Ticket) (B : Nat) {s : State} (hs : MemOk s) : MemOk (reserve n t B s) :=
  (reserve_staysOk n t B s).mem hs

theorem admitFrame_memOk (n : Fin 4) (L : Nat) (t : Ticket) {s : State} (hs : MemOk s) :
    MemOk (admitFrame n L t s) := by
  unfold admitFrame
  dsimp only
  generalize blockNeed _ = B
  cases gateRefusal s t.route with
  | some c => rwa [MemOk, refuse_mem]
  | none =>
    have evicted : MemOk (quotaEvict t.route B s) := (quotaEvict_staysOk t.route B s).mem hs
    dsimp only
    split
    · rwa [MemOk, refuseQuota_mem]
    · split
      · rwa [MemOk, refuseThreshold_mem]
      · exact reserve_memOk n t B ((retainEvict_staysOk t.route _).mem evicted)

theorem classify_memOk (n : Fin 4) (L : Nat) (head : List Byte) {s : State} (hs : MemOk s) :
    MemOk (classify n L head s) := by
  unfold classify
  dsimp only
  split
  · split
    · rwa [MemOk, dropFrame_mem]
    · exact admitFrame_memOk n L _ hs
  · split
    · rwa [MemOk, dropFrame_mem]
    · exact admitFrame_memOk n L _ hs

end Sys2Proof.Machine
end

section
/-! SUPPORT. What a lane's bit causes (R35): header extent, frame end, sync position, comparison, flip and the bit
itself keep the invariants of blocks and of buffer memory. -/

namespace Sys2Proof.Machine

/-! ### The header extent (R43, R46) -/

/-- The lane at the header extent with its length known. -/
def Lane.headerReached (l : Lane) (L : Nat) : Lane :=
  { l with asm := l.asm.map fun a => { a with len := some L, hdrDone := true } }

theorem headerReached_asm {l : Lane} (hdue : l.headerDue = true) (L : Nat) :
    ((l.headerReached L).asm.map fun a => (a.phase, a.hdrDone)) = some (.body, true) := by
  have asm := asm_of_headerDue hdue
  unfold Lane.headerReached
  cases ha : l.asm with
  | none => simp [ha] at asm
  | some a =>
    simp only [ha, Option.map_some, Option.some.injEq, Prod.mk.injEq] at asm ⊢
    exact ⟨asm.1, trivial⟩

theorem LaneOk.headerReached {busy : Bool} {l : Lane} (h : LaneOk busy l) (hdue : l.headerDue = true) (L : Nat) :
    LaneOk busy (l.headerReached L) := by
  obtain ⟨-, idle⟩ := h.atHeader hdue
  refine ⟨(frameOk_iff _).mpr fun fate hf => ?_, fun busy => by simp [idle] at busy⟩
  obtain ⟨st, -⟩ := (frameOk_iff l).mp h.1 fate hf
  exact ⟨st, true, headerReached_asm hdue L, .inr rfl⟩

theorem headerKnown_eq (n : Fin 4) (L : Nat) (head : List Byte) (s : State) :
    headerKnown n L head s =
      if (s.lane n).frame.isSome then classify n L head (s.setLane n ((s.lane n).headerReached L))
      else s.setLane n ((s.lane n).headerReached L) := by
  unfold headerKnown
  simp only [State.modLane, lane_setLane]
  rfl

theorem headerKnown_staysOk {n : Fin 4} {s : State} (hdue : (s.lane n).headerDue = true) (L : Nat) (head : List Byte) :
    StaysOk (headerKnown n L head s) s := by
  have reached : StaysOk (s.setLane n ((s.lane n).headerReached L)) s :=
    setLane_staysOk fun lane => ⟨lane.headerReached hdue L, rfl⟩
  rw [headerKnown_eq]
  split
  next hframe =>
    refine ⟨fun hs => Decides.classify ⟨reached.blocks hs, ?_⟩ L head,
      fun hs => classify_memOk n L head (reached.mem hs)⟩
    obtain ⟨empty, -⟩ := (((blocksOk_iff s).mp hs).1 n).atHeader hdue
    rw [lane_setLane]
    exact ⟨Option.isSome_iff_ne_none.mp hframe, headerReached_asm hdue L, empty⟩
  next => exact reached

theorem lengthError_staysOk {n : Fin 4} {s : State} (hdue : (s.lane n).headerDue = true) (len : Int) :
    StaysOk (lengthError n len s) s := by
  obtain ⟨-, frame, -⟩ := dropBody_reads (s.lane n)
  rw [lengthError_eq]
  refine .of_setLane (l := (s.lane n).dropBody) ⟨rfl, rfl, rfl, rfl, rfl⟩ fun lane => ?_
  obtain ⟨empty, idle⟩ := lane.atHeader hdue
  exact ⟨.idle frame fun busy => by simp [idle] at busy, by rw [empty, blocks_of_noFrame frame]⟩

theorem headerExtentAt_staysOk (n : Fin 4) (s : State) : StaysOk (headerExtentAt n s) s := by
  unfold headerExtentAt
  dsimp only
  split
  next hdue =>
    split
    · split
      · split
        · exact lengthError_staysOk hdue _
        · exact headerKnown_staysOk hdue _ _
      · exact headerKnown_staysOk hdue _ _
    · exact .refl s
  next => exact .refl s

/-! ### The frame end (R47, R82, R83) -/

theorem closeFrame_eq (n : Fin 4) (s : State) : closeFrame n s = s.setLane n { s.lane n with frame := none } := rfl

/-- A lane meets the invariant without its frame. -/
theorem LaneOk.closed {busy : Bool} {l : Lane} (h : LaneOk busy l) : LaneOk busy { l with frame := none } :=
  .idle rfl fun hb => by
    obtain ⟨st, -, asm, due⟩ := (laneHeld_iff l).mp (h.2 hb)
    exact ⟨st, asm, due⟩

section
variable {n : Fin 4} {t : Ticket} {s : State}

theorem blocks_of_admitted (h : (s.lane n).frame.map FrameCtx.fate = some (.admitted t)) :
    (s.lane n).blocks = t.chain := by
  rw [blocks_eq, h]
  rfl

/-- A frame discarded at its end gives its chain back (R82). -/
theorem discardFrame_staysOk (h : (s.lane n).frame.map FrameCtx.fate = some (.admitted t)) (f : FrameCtx)
    (c : RouteCtr) : StaysOk (discardFrame n f t c s) s := by
  unfold discardFrame
  rw [← blocks_of_admitted h]
  refine releaseFrame_staysOk (l := { s.lane n with frame := none }) t.route ?_ LaneOk.closed (blocks_of_noFrame rfl)
  exact (loseMarks_keepsBlocks _ _ _).trans (by simp [closeFrame_eq])

/-- A committed frame hands its chain to its record (R83). In the account the chain goes through the free list. -/
theorem commitFrame_staysOk (h : (s.lane n).frame.map FrameCtx.fate = some (.admitted t)) (f : FrameCtx) (L : Nat)
    (v : FcsVerdict) (q : SeqVerdict) : StaysOk (commitFrame n f t L v q s) s := by
  refine ⟨fun hs => ?_, fun hs => wf_writeBytes _ _ _ _ hs⟩
  have released := hs.setLane (n := n) (l := { s.lane n with frame := none }) (free := s.buf.free ++ t.chain)
    (((blocksOk_iff s).mp hs).1 n).closed (by rw [blocks_of_noFrame rfl, List.append_nil, blocks_of_admitted h])
  let x := s.route t.route
  have queued := released.setRoute (r := t.route) (free := s.buf.free)
    (x := { x with serial := x.serial + 1, queue := x.queue ++ [commitRecord s n f t L v q] }) (by
      change (s.buf.free ++ (x.queue ++ [commitRecord s n f t L v q]).flatMap Record.chain).Perm
        (s.buf.free ++ t.chain ++ x.queue.flatMap Record.chain)
      rw [List.flatMap_append, List.flatMap_singleton, List.append_assoc]
      exact List.perm_append_comm.append_left _)
  exact queued

/-- Finalization closes the frame and touches no other lane's framing. -/
theorem finalize_framing (n : Fin 4) (f : FrameCtx) (t : Ticket) (L : Nat) (v : FcsVerdict) (s : State) :
    mapVec Lane.framing (finalize n f t L v s).lanes
      = mapVec Lane.framing (closeFrame n (seqCheck n t v s).1).lanes := by
  unfold finalize
  dsimp only
  split
  · simp [discardFrame]
  · split
    · simp [discardFrame]
    · simp [commitFrame]

theorem finalize_staysOk (h : (s.lane n).frame.map FrameCtx.fate = some (.admitted t)) (f : FrameCtx) (L : Nat)
    (v : FcsVerdict) : StaysOk (finalize n f t L v s) s := by
  have checked := seqCheck_keepsBlocks n t v s
  obtain ⟨-, -, fate, -⟩ := framing_eq_iff.mp (framing_of_lanes checked.1 n)
  have admitted := fate.trans h
  unfold finalize
  dsimp only
  split
  · exact (discardFrame_staysOk admitted f _).trans (.of_keeps checked)
  · split
    · exact (discardFrame_staysOk admitted f _).trans (.of_keeps checked)
    · exact (commitFrame_staysOk admitted f L v _).trans (.of_keeps checked)

end

theorem toSyncPhase_staysOk {n : Fin 4} {s : State} (h : (s.lane n).blocks = []) :
    StaysOk (s.modLane n Lane.toSyncPhase) s := by
  refine setLane_staysOk fun lane => ⟨.idle rfl fun hb => ?_, h.symm⟩
  obtain ⟨st, -, asm, due⟩ := (laneHeld_iff _).mp (lane.2 hb)
  exact ⟨st, by rw [Lane.toSyncPhase, asm]; rfl, due⟩

theorem frameEndAt_staysOk (n : Fin 4) (s : State) : StaysOk (frameEndAt n s) s := by
  unfold frameEndAt
  dsimp only
  split
  next hdue =>
    split
    next a f ha hf =>
      have counted (c : LaneCtr) : ((bumpLane n c s).lane n).frame = some f := by simpa [bumpLane, Lane.count] using hf
      split
      next t ht =>
        refine (toSyncPhase_staysOk ?_).trans ((finalize_staysOk ?_ f _ _).trans (.of_keeps (by simp)))
        · rw [blocks_congr (framing_of_lanes (finalize_framing _ _ _ _ _ _) n)]
          exact blocks_of_noFrame (congrArg Lane.frame (lane_modLane _ n _))
        · rw [counted, Option.map_some, ht]
      next hnot =>
        refine (toSyncPhase_staysOk ?_).trans (.of_keeps (by simp))
        rw [blocks_of_frame (counted _)]
        cases hfate : f.fate with
        | admitted t => exact absurd hfate (hnot t)
        | _ => rfl
    next hnone =>
      refine toSyncPhase_staysOk (blocks_of_noFrame ?_)
      cases ha : (s.lane n).asm with
      | none => simp [frameEndDue_of_noAssembly ha] at hdue
      | some a => exact Option.eq_none_iff_forall_ne_some.mpr fun f hf => hnone a f ha hf
  next => exact .refl s

/-! ### Sync positions, SEARCH and the polarity flip (R37 to R41, R44) -/

theorem acquireLock_eq (n : Fin 4) (s : State) :
    acquireLock n s =
      { s.setLane n (({ s.lane n with st := .locked, missCnt := 0 } : Lane).startFrame s.tb.ref false) with
        ev := (post 0x20 (srcIdx n) (BitVec.ofNat 32 (bit (s.lane n).pol)) (s.lane n).dwell s).ev } := by
  rw [← acquireLock_setLane, setLane_self]

/-- What an expected sync position makes of a lane: no frame is in assembly there, and no device reset is busy. -/
theorem position_staysOk {n : Fin 4} {s t : State} {l : Lane} (hdue : (s.lane n).positionDue = true)
    (ht : KeepsBlocks t (s.setLane n l)) (hl : LaneOk false l) (hb : l.blocks = []) : StaysOk t s :=
  .of_setLane ht fun lane => by
    obtain ⟨frame, idle⟩ := lane.atPosition hdue
    rw [idle, hb, blocks_of_noFrame frame]
    exact ⟨hl, rfl⟩

theorem syncPositionAt_staysOk (n : Fin 4) (s : State) : StaysOk (syncPositionAt n s) s := by
  cases hdue : (s.lane n).positionDue with
  | false => rw [syncPositionAt_notDue hdue]; exact .refl s
  | true =>
    have started {t : State} {l : Lane} {ref : DWord} {coast : Bool} (hst : l.st = .locked ∨ l.st = .coast)
        (ht : KeepsBlocks t (s.setLane n (l.startFrame ref coast))) : StaysOk t s :=
      position_staysOk hdue ht (startFrame_laneOk hst ref coast) rfl
    have lost : StaysOk (loseLock n s) s := by
      rw [loseLock_eq]
      exact position_staysOk (l := ((s.lane n).toSearch false).count .lockLoss) hdue ⟨rfl, rfl, rfl, rfl, rfl⟩
        (.idle rfl nofun) rfl
    have missed {misses : Nat}
        (hst : (s.lane n).st = .locked ∧ misses = 1 ∨ (s.lane n).st = .coast ∧ misses = (s.lane n).missCnt + 1)
        (hmiss : (s.lane n).matchesSync = false) : StaysOk (syncPositionAt n s) s := by
      rw [syncPositionAt_miss hdue hst hmiss]
      split
      · exact started (.inr rfl) (.refl _)
      · exact lost
    have matched (hst : (s.lane n).st = .locked ∨ (s.lane n).st = .coast) (hmatch : (s.lane n).matchesSync = true) :
        StaysOk (syncPositionAt n s) s := by
      obtain ⟨misses, h⟩ := syncPositionAt_match hdue hst hmatch
      rw [h]
      exact started (.inl rfl) (.refl _)
    cases hst : (s.lane n).st with
    | verify =>
      cases hm : (s.lane n).matchesSync with
      | false =>
        rw [syncPositionAt_verify_miss hdue hst hm]
        exact position_staysOk hdue (.refl _) (toSearch_laneOk false _ false) rfl
      | true =>
        rw [syncPositionAt_verify_match hdue hst hm]
        split
        · exact setLane_staysOk fun lane => by
            obtain ⟨frame, idle⟩ := lane.atPosition hdue
            exact ⟨.idle frame fun busy => by simp [idle] at busy, rfl⟩
        · rw [acquireLock_eq]
          exact started (.inl rfl) ⟨rfl, rfl, rfl, rfl, rfl⟩
    | locked =>
      cases hm : (s.lane n).matchesSync with
      | false => exact missed (.inl ⟨hst, rfl⟩) hm
      | true => exact matched (.inl hst) hm
    | coast =>
      cases hm : (s.lane n).matchesSync with
      | false => exact missed (.inr ⟨hst, rfl⟩) hm
      | true => exact matched (.inr hst) hm
    | off | noclock | search =>
      simp only [syncPositionAt, hst, ite_self]
      exact .refl s

/-- A comparison in SEARCH: a lane that searches has no frame, and with a comparison due no device reset is busy. -/
theorem syncFoundAt_staysOk (n : Fin 4) (s : State) : StaysOk (syncFoundAt n s) s := by
  by_cases h : (s.lane n).st = .search ∧ (s.lane n).cmpDue = true
  · obtain ⟨hst, hcmp⟩ := h
    have found {t : State} {l : Lane} (ht : KeepsBlocks t (s.setLane n l))
        (hl : (s.lane n).frame = none → LaneOk false l ∧ l.blocks = []) : StaysOk t s :=
      .of_setLane ht fun lane => by
        have frame := lane.noFrame (by simp [hst]) (by simp [hst])
        rw [lane.notBusy (.inr hcmp), blocks_of_noFrame frame]
        exact hl frame
    have unframed {l : Lane} (hl : l.frame = (s.lane n).frame) (frame : (s.lane n).frame = none) :
        LaneOk false l ∧ l.blocks = [] :=
      ⟨.idle (hl.trans frame) nofun, blocks_of_noFrame (hl.trans frame)⟩
    rw [syncFoundAt_due hst hcmp]
    dsimp only
    split
    · split
      · exact found (l := Lane.startFrame _ _ _) ⟨rfl, rfl, rfl, rfl, rfl⟩
          fun _ => ⟨startFrame_laneOk (.inl rfl) _ _, rfl⟩
      · exact found (.refl _) (unframed rfl)
    · exact found (.refl _) (unframed rfl)
  · rw [syncFoundAt_notDue (by simpa [Decidable.or_iff_not_imp_left] using h)]
    exact .refl s

theorem flipAt_staysOk (n : Fin 4) (s : State) : StaysOk (flipAt n s) s := by
  cases hdue : (s.lane n).flipDue with
  | false => simp only [flipAt, hdue, Bool.false_eq_true, if_false]; exact .refl s
  | true =>
    obtain ⟨hst, -⟩ := (flipDue_iff _).mp hdue
    rw [flipAt_due hdue]
    refine .of_setLane (l := (s.lane n).flip) ⟨rfl, rfl, rfl, rfl, rfl⟩ fun lane => ⟨toSearch_laneOk _ _ _, ?_⟩
    have frame := lane.noFrame (by rcases hst with h | h <;> simp [h]) (by rcases hst with h | h <;> simp [h])
    exact (blocks_of_noFrame frame).symm

theorem settleSync_staysOk (n : Fin 4) (s : State) : StaysOk (settleSync n s) s :=
  (syncFoundAt_staysOk n _).trans
    ((syncPositionAt_staysOk n _).trans ((frameEndAt_staysOk n _).trans (headerExtentAt_staysOk n s)))

theorem settleLane_staysOk (n : Fin 4) (s : State) : StaysOk (settleLane n s) s :=
  (flipAt_staysOk n _).trans (settleSync_staysOk n s)

theorem flipRow_staysOk (n : Fin 4) (s : State) : StaysOk (flipRow n s) s :=
  .ite fun _ => (flipAt_staysOk n _).trans (settleSync_staysOk n s)

/-! ### One bit handed over (R33, R35) -/

/-- A bit of a body leaves the body where it is, and a whole byte of an admitted frame is stored. -/
theorem phaseBit_staysOk (n : Fin 4) (b : Bool) (s : State) : StaysOk (phaseBit n b s) s := by
  unfold phaseBit
  dsimp only
  split
  next => exact .refl s
  next a ha =>
    have received {a' : Assembly} (hp : a'.phase = a.phase) (hd : a'.hdrDone = a.hdrDone) :
        KeepsBlocks (s.modLane n fun l => { l with asm := some a' }) s := by
      refine ⟨modLane_framing (framing_eq_iff.mpr ⟨rfl, rfl, rfl, ?_⟩), rfl, rfl, rfl, rfl⟩
      rw [ha, Option.map_some, Option.map_some, hp, hd]
    split
    · exact .of_keeps (received rfl rfl)
    · split
      · unfold bodyByte
        simp only [ha]
        obtain ⟨hp, hd⟩ := takeFcs_framing _ _ _
        exact (storeBody_staysOk _ _ _ _).trans (.of_keeps (received hp hd))
      · exact .of_keeps (received rfl rfl)

/-- A bit in SEARCH makes its comparison due, unless a device reset is busy (R37, R178). -/
theorem compareDue_staysOk {n : Fin 4} {s : State} (idle : s.ctl.resetBusy = false) :
    StaysOk (s.modLane n fun l => { l with cmpDue := l.histLen == l.syncLen }) s := by
  refine setLane_staysOk fun lane => ?_
  rw [idle] at lane ⊢
  exact ⟨⟨lane.1, nofun⟩, rfl⟩

theorem handBit_staysOk {n : Fin 4} {s : State} (idle : s.ctl.resetBusy = false) (b : Bool) :
    StaysOk (handBit n b s) s := by
  have taken : StaysOk ((settleLane n s).modLane n fun l => l.takeBit b) s :=
    (StaysOk.of_keeps (modLane_takeBit_keepsBlocks n b _)).trans (settleLane_staysOk n s)
  unfold handBit
  dsimp only
  split
  · exact (compareDue_staysOk (by simpa using idle)).trans taken
  · exact (phaseBit_staysOk n b _).trans taken

end Sys2Proof.Machine
end

section
/-! SUPPORT. Abandonment, the lane receivers, resets, host accesses, presets, the delivery engine, commands and the course
of a tick keep the invariants of blocks and of buffer memory, and so does every step: the statements O6 and O7. -/

namespace Sys2Proof.Machine

/-! ### Abandonment and the lane receivers (R25 to R28, R50) -/

theorem countAbandoned_framing (l : Lane) : l.countAbandoned.framing = l.framing := by
  unfold Lane.countAbandoned
  split
  · rfl
  · split
    · rfl
    · rfl
    · split <;> rfl

/-- An abandoned frame gives its chain back. -/
theorem abandon_staysOk (n : Fin 4) (s : State) : StaysOk (abandon n s) s := by
  obtain ⟨sh, ev, trigs, h, -⟩ := abandon_frame n s
  rw [h]
  refine ⟨fun hs => ?_, id⟩
  have lane := ((blocksOk_iff s).mp hs).1 n
  obtain ⟨st, due, -, -⟩ := framing_eq_iff.mp (countAbandoned_framing (s.lane n))
  have idle : LaneOk s.ctl.resetBusy { (s.lane n).countAbandoned with asm := none, frame := none } :=
    .idle rfl fun busy => by
      obtain ⟨held, -, -, hdue⟩ := (laneHeld_iff _).mp (lane.2 busy)
      exact ⟨by rwa [← st] at held, rfl, due.trans hdue⟩
  exact (StaysOk.of_keeps ⟨rfl, rfl, rfl, rfl, rfl⟩).blocks
    (hs.setLane (free := s.buf.free ++ (s.lane n).blocks) idle (by
      rw [blocks_of_noFrame (l := { (s.lane n).countAbandoned with asm := none, frame := none }) rfl, List.append_nil]))

/-- A lane that stops framing, once its frame is abandoned. -/
theorem abandon_modLane_staysOk {n : Fin 4} {f : Lane → Lane} {s : State} (hf : ∀ l, (f l).frame = none)
    (hheld : s.ctl.resetBusy = true →
      ∀ l, ((f l).st = .off ∨ (f l).st = .search) ∧ (f l).asm = none ∧ (f l).cmpDue = false) :
    StaysOk ((abandon n s).modLane n f) s := by
  obtain ⟨-, -, -, -, -, ctl, -⟩ := abandon_keepsUnits n s
  have bare : ((abandon n s).lane n).frame = none := by
    have read := (abandon_modLane_reads n id s).1
    exact (congrArg Lane.frame ((lane_modLane _ n id).symm.trans read)).trans rfl
  refine (setLane_staysOk fun _ => ⟨.idle (hf _) fun busy => hheld (ctl ▸ busy) _, ?_⟩).trans (abandon_staysOk n s)
  rw [blocks_of_noFrame (hf _), blocks_of_noFrame bare]

theorem disableLane_staysOk (n : Fin 4) (s : State) : StaysOk (disableLane n s) s :=
  abandon_modLane_staysOk (fun _ => rfl) fun _ _ => ⟨.inl rfl, rfl, rfl⟩

/-- An OFF lane that passes its check starts in SEARCH, and one that fails it stays as it is (R24, R25). -/
theorem enableLane_staysOk {n : Fin 4} {s : State} (hoff : (s.lane n).st = .off) (report : Bool) :
    StaysOk (enableLane n report s).1 s := by
  have checked (code : BitVec 3) : KeepsBlocks (s.modLane n fun l => { l with lastChk := code }) s := by simp
  unfold enableLane
  dsimp only
  split
  · refine (setLane_staysOk fun lane => ⟨.idle rfl fun _ => ⟨.inr rfl, rfl, rfl⟩, ?_⟩).trans (.of_keeps (checked _))
    have frame := lane.noFrame (by simp [hoff]) (by simp [hoff])
    exact (blocks_of_noFrame frame).symm
  · split
    · exact (StaysOk.of_keeps (post_keepsBlocks _ _ _ _ _)).trans (.of_keeps (checked _))
    · exact .of_keeps (checked _)

/-- A write of a lane configuration word: by LCTL a lane may start or stop (R22, R23, R25, R26). -/
theorem writeLaneReg_staysOk (n : Fin 4) (reg : LaneReg) (data : Word) (report : Bool) (s : State) :
    StaysOk (writeLaneReg n reg data report s).1 s := by
  have written (v : Word) : StaysOk (s.setLane n ((s.lane n).withReg reg v)) s := .of_keeps (by simp)
  have refused (offset : Nat) : StaysOk (refuseWrite report (srcIdx n) offset data s) s := .of_keeps (by simp)
  by_cases hoff : (s.lane n).st = .off
  · by_cases hreg : reg = .lctl
    · subst hreg
      cases hen : data.getLsbD 0 with
      | false =>
        rw [writeLctl_off hoff hen]
        exact written _
      | true =>
        rw [writeLctl_enable hoff hen]
        exact (enableLane_staysOk (by rw [lane_setLane]; exact hoff) report).trans (written _)
    · rw [writeLaneReg_off hreg hoff]
      exact written _
  · by_cases hreg : reg = .lctl
    · subst hreg
      have told (same : Bool) (offset : Nat) :
          StaysOk (if same then s else refuseWrite report (srcIdx n) offset data s) s := by
        split
        · exact .refl s
        · exact refused offset
      unfold writeLaneReg
      dsimp only
      rw [if_neg hoff]
      dsimp only
      split
      · exact told _ _
      · exact (disableLane_staysOk n _).trans (told _ _)
    · rw [writeLaneReg_on hreg hoff]
      exact refused _

theorem clockLostAt_staysOk (n : Fin 4) (s : State) : StaysOk (clockLostAt n s) s := by
  unfold clockLostAt
  split
  next h =>
    have stopped := abandon_modLane_staysOk (n := n) (s := s)
      (f := fun l => { l.toSearch true with st := .noclock, tally := 0 }) (fun _ => rfl)
      fun busy => absurd (h.2.symm.trans busy) Bool.false_ne_true
    exact (StaysOk.of_keeps (post_keepsBlocks _ _ _ _ _)).trans stopped
  next => exact .refl s

theorem clockRestoredAt_staysOk (n : Fin 4) (s : State) : StaysOk (clockRestoredAt n s) s := by
  unfold clockRestoredAt
  split
  next h =>
    refine .of_setLane (l := { (s.lane n).toSearch true with wdog := 0 }) ⟨rfl, rfl, rfl, rfl, rfl⟩ fun lane => ?_
    have frame := lane.noFrame (by simp [h.1]) (by simp [h.1])
    exact ⟨.idle rfl fun _ => ⟨.inr rfl, rfl, rfl⟩, (blocks_of_noFrame frame).symm⟩
  next => exact .refl s

theorem clockEdge_staysOk (n : Fin 4) (rising level : Bool) (s : State) : StaysOk (clockEdge n rising level s) s := by
  unfold clockEdge
  split
  next h =>
    obtain ⟨-, -, idle⟩ := h
    have seen : StaysOk (s.modLane n fun l => { l with wdog := 0 }) s := .of_keeps (by simp)
    dsimp only
    split
    · exact (handBit_staysOk (by simpa using idle) _).trans ((settleLane_staysOk n _).trans seen)
    · exact seen
  next => exact .refl s

theorem feedAt_staysOk (n : Fin 4) (s : State) : StaysOk (feedAt n s) s := by
  unfold feedAt
  split
  next h =>
    obtain ⟨-, -, idle⟩ := h
    dsimp only
    split
    · exact (handBit_staysOk (by simpa using idle) _).trans (.of_keeps (by simp))
    · exact (handBit_staysOk (by simpa using idle) _).trans (.of_keeps (by simp))
    · exact .refl s
  next => exact .refl s

/-! ### Resets (R175 to R178) -/

/-- With no frame and no record every block is free. -/
theorem usedBlocks_eq_nil {s : State} (lanes : ∀ n, (s.lane n).frame = none) (queues : ∀ r, (s.route r).queue = []) :
    usedBlocks s = [] := by
  simp [usedBlocks, queues, fun n => blocks_of_noFrame (lanes n)]

theorem reset_blocksOk : BlocksOk State.reset := by
  have lane (n : Fin 4) : State.reset.lane n = Lane.reset := by revert n; decide
  have route (r : Fin 16) : State.reset.route r = Route.reset := by revert r; decide
  have used : usedBlocks State.reset = [] :=
    usedBlocks_eq_nil (fun n => congrArg Lane.frame (lane n)) (fun r => congrArg Route.queue (route r))
  refine (blocksOk_iff _).mpr ⟨fun n => ?_, by rw [used, List.append_nil]; rfl⟩
  rw [lane]
  exact .idle rfl fun _ => ⟨.inl rfl, rfl, rfl⟩

/-- Power-on and host reset (R175, R176). -/
theorem staysOk_of_reset {s t : State} (h : KeepsBlocks t State.reset) : StaysOk t s :=
  ⟨fun _ => (StaysOk.of_keeps h).blocks reset_blocksOk, fun _ => (StaysOk.of_keeps h).mem wf_reset⟩

/-- A device reset frees every block and keeps buffer memory (R87, R177). -/
theorem deviceReset_staysOk (s : State) : StaysOk (deviceReset s) s := by
  have used : usedBlocks (deviceReset s) = [] :=
    usedBlocks_eq_nil (fun n => congrArg Lane.frame (deviceReset_lane n s))
      (fun r => congrArg Route.queue (deviceReset_route r s))
  refine ⟨fun _ => (blocksOk_iff _).mpr ⟨fun n => ?_, by rw [used, List.append_nil]; rfl⟩, id⟩
  rw [deviceReset_lane]
  obtain ⟨st, -⟩ := lane_deviceReset_reads (s.lane n)
  refine .idle rfl fun _ => ⟨?_, rfl, rfl⟩
  rw [st]
  split
  · exact .inl rfl
  · exact .inr rfl

theorem writeDevctl_staysOk (data : Word) (allowReset : Bool) (s : State) :
    StaysOk (writeDevctl data allowReset s) s := by
  unfold writeDevctl
  dsimp only
  split
  · exact (deviceReset_staysOk _).trans (.of_keeps ⟨rfl, rfl, rfl, rfl, rfl⟩)
  · exact .of_keeps ⟨rfl, rfl, rfl, rfl, rfl⟩

/-- RESET_DONE: every lane is held, so the restart of a lane takes no frame from it (R178). -/
theorem resetDoneAt_staysOk (s : State) : StaysOk (resetDoneAt s) s := by
  unfold resetDoneAt
  split
  next hdue =>
    refine ⟨fun hs => ?_, id⟩
    obtain ⟨lanes, places⟩ := (blocksOk_iff s).mp hs
    have bare (n : Fin 4) : (s.lane n).frame = none ∧ (s.lane n).restart.frame = none := by
      obtain ⟨-, frame, -⟩ := (laneHeld_iff _).mp ((lanes n).2 hdue.1)
      refine ⟨frame, ?_⟩
      unfold Lane.restart
      split
      · exact frame
      · rfl
    let restarted : State := { s with lanes := mapVec Lane.restart s.lanes }
    have lane (n : Fin 4) : restarted.lane n = (s.lane n).restart := getElem_mapVec _ _ _ _
    have used : usedBlocks restarted = usedBlocks s :=
      usedBlocks_congr
        (fun n => by rw [lane, blocks_of_noFrame (bare n).1, blocks_of_noFrame (bare n).2]) fun _ => rfl
    refine (blocksOk_iff _).mpr ⟨fun n => ?_, ?_⟩
    · change LaneOk false (restarted.lane n)
      rw [lane]
      exact .idle (bare n).2 nofun
    · change (s.buf.free ++ usedBlocks restarted).Perm _
      rwa [used]
  next => exact .refl s

/-! ### Host accesses and presets -/

/-- The write of a register, by the host or by a preset. -/
theorem writeReg_staysOk (report : Bool) (data : Word) (s : State) (r : Reg) :
    StaysOk (writeReg report data s r).1 s := by
  cases r with
  | devctl => exact writeDevctl_staysOk data report s
  | lane n reg => exact writeLaneReg_staysOk n reg data report s
  | _ => exact .of_keeps (by simp [writeReg, writeBstat, popEvent])

theorem hostWriteReg_staysOk (r : Reg) (data : Word) (s : State) : StaysOk (hostWriteReg r data s) s :=
  .ite fun _ => writeReg_staysOk true data s r

theorem access_staysOk (offset : BitVec 12) (write : Bool) (bytes : BitVec 4) (multi : Bool) (data : Word) (s : State) :
    StaysOk (access offset write bytes multi data s) s := by
  unfold access
  split
  · exact .of_keeps (refuseAccess_keepsBlocks _ _ _ _ _)
  · split
    · unfold hostWrite
      split
      · exact hostWriteReg_staysOk _ data s
      · exact .refl s
    · exact .of_keeps (hostRead_keepsBlocks _ _)

theorem applyPairs_staysOk (ps : List (Word × Word)) (s : State) : StaysOk (applyPairs ps s).1 s := by
  induction ps generalizing s with
  | nil => exact .refl s
  | cons p ps ih =>
    refine (ih (applyPair p s).1).trans ?_
    unfold applyPair
    split
    · exact writeReg_staysOk false p.2 s _
    · exact .refl s

theorem judgeList_staysOk (ws : List Word) (s : State) : StaysOk (judgeList ws s).1 s := by
  unfold judgeList
  split
  · exact .refl s
  · exact applyPairs_staysOk _ s

theorem operationEnds_staysOk (word : Nat) (data : Word) (s : State) : StaysOk (operationEnds word data s) s := by
  unfold operationEnds
  split
  case h_2 =>
    split
    · exact .of_keeps (by simp)
    · exact (StaysOk.of_keeps (endBoot_keepsBlocks _ _)).trans (judgeList_staysOk _ s)
  case h_5 =>
    split
    · exact .of_keeps (by simp)
    · exact (StaysOk.of_keeps (endReload_keepsBlocks _ _)).trans (judgeList_staysOk _ s)
  case h_1 => exact .of_keeps (by split <;> simp [endIdentity])
  case h_3 | h_4 => exact .of_keeps (endStoreWord_keepsBlocks _ _ _)
  all_goals exact .refl s

theorem opDone_staysOk (data : Word) (s : State) : StaysOk (opDone data s) s := by
  unfold opDone
  split
  · exact .ite fun _ => operationEnds_staysOk _ data s
  · exact .refl s

/-! ### The delivery engine (R117, R120, R121) -/

theorem engineStep_staysOk {f : State → State} {s : State} (h : StaysOk (f s) s) : StaysOk (engineStep f s) s := by
  unfold engineStep
  split
  · exact .refl s
  · exact h

theorem takeTurn_staysOk (r : Fin 16) (x : Record) (b : Buffer) (s : State) : StaysOk (takeTurn r x b s) s := by
  unfold takeTurn
  split
  · exact (StaysOk.of_keeps (by simp [oversizeRecord])).trans (dropHead_staysOk r true s)
  · exact .of_keeps (by split <;> simp)

theorem placeTurn_staysOk (s : State) : StaysOk (placeTurn s) s := by
  unfold placeTurn
  refine .ite fun _ => ?_
  split
  · exact .refl s
  · dsimp only
    split
    · exact (takeTurn_staysOk _ _ _ _).trans (.of_keeps ⟨rfl, rfl, rfl, rfl, rfl⟩)
    · exact .of_keeps ⟨rfl, rfl, rfl, rfl, rfl⟩

theorem finishRecord_staysOk (r : Fin 16) (x : Record) (s : State) : StaysOk (finishRecord r x s) s :=
  (StaysOk.of_keeps (by simp [finishRecord, Route.count])).trans (dropHead_staysOk r false s)

theorem payloadOne_staysOk (p : InProgress) (s : State) : StaysOk (payloadOne p s) s := by
  unfold payloadOne
  split
  · dsimp only
    split
    · exact .of_keeps (by simp)
    · exact (finishRecord_staysOk _ _ _).trans (.of_keeps (by simp))
  · exact .refl s

theorem payloadLoop_staysOk (k : Nat) (s : State) : StaysOk (payloadLoop k s) s := by
  induction k generalizing s with
  | zero => exact .refl s
  | succ k ih =>
    unfold payloadLoop
    split
    · exact .refl s
    · exact (ih _).trans (payloadOne_staysOk _ s)

theorem continueRecord_staysOk (k : Nat) (s : State) : StaysOk (continueRecord k s) s :=
  .ite fun _ => payloadLoop_staysOk k s

/-! ### Commands (R51, R100, R101) -/

/-- The command step, by its owner. -/
theorem runCmd_staysOk {op : Byte} {owner : Cmd → State → State} {s : State} (h : ∀ c, StaysOk (owner c s) s) :
    StaysOk (runCmd op owner s) s := by
  unfold runCmd
  split
  · refine .ite fun _ => ?_
    split
    · exact h _
    · exact .of_keeps (endCmd_keepsBlocks _ _ _ s)
  · exact .refl s

/-- A route command, by its effect. -/
theorem runRouteCmd_staysOk {act : Fin 16 → State → State × Result} {s : State} (h : ∀ r, StaysOk (act r s).1 s)
    (c : Cmd) : StaysOk (runRouteCmd act c s) s :=
  (StaysOk.of_keeps (endCmd_keepsBlocks c _ _ _)).trans (h c.route)

theorem withdrawFrame_staysOk (r : Fin 16) (s : State) (n : Fin 4) : StaysOk (withdrawFrame r s n) s := by
  unfold withdrawFrame
  split
  next f hf =>
    split
    next t ht =>
      have admitted : (s.lane n).frame.map FrameCtx.fate = some (.admitted t) := by rw [hf, Option.map_some, ht]
      refine .ite fun _ => ?_
      have released : StaysOk (releaseChain r (s.lane n).blocks (setFate n .withdrawn s)) s :=
        releaseFrame_staysOk (l := (s.lane n).withFate .withdrawn) r (.refl _)
          (fun lane => lane.withFate (lane.asm_of_admitted admitted) _) (withFate_blocks hf _)
      rw [← blocks_of_admitted admitted]
      exact (StaysOk.of_keeps (by simp)).trans released
    next => exact .refl s
  next => exact .refl s

theorem discardAt_staysOk (r : Fin 16) (keep : Nat) (s : State) : StaysOk (discardAt r keep s) s := by
  unfold discardAt
  dsimp only
  split
  next => exact .refl s
  next x rest hq =>
    refine releaseRecord_staysOk (loseMarks_keepsBlocks _ _ _) ?_
    have queue : (s.route r).chains = ((s.route r).queue.take keep ++ x :: rest).flatMap Record.chain := by
      rw [← hq, List.take_append_drop, Route.chains]
    rw [queue, Route.chains, List.flatMap_append, List.flatMap_append, List.flatMap_cons, List.append_assoc]
    exact List.perm_append_comm.append_left _

theorem discardQueue_staysOk (r : Fin 16) (keep k : Nat) (s : State) : StaysOk (discardQueue r keep k s) s := by
  induction k generalizing s with
  | zero => exact .refl s
  | succ k ih => exact (ih _).trans (discardAt_staysOk r keep s)

theorem enterAborting_staysOk (r : Fin 16) (s : State) : StaysOk (enterAborting r s) s :=
  (StaysOk.of_keeps (closeBuffer_keepsBlocks r _ _)).trans
    ((discardQueue_staysOk r _ _ _).trans
      ((foldl_staysOk (withdrawFrame_staysOk r) allLanes _).trans (.of_keeps (by simp))))

theorem abortCmd_staysOk (r : Fin 16) (s : State) : StaysOk (abortCmd r s).1 s := by
  unfold abortCmd
  split
  case h_5 =>
    split
    · exact .refl s
    · split
      · exact enterAborting_staysOk r s
      · exact .refl s
  case h_6 => exact .refl s
  all_goals exact enterAborting_staysOk r s

theorem runLaneResync_staysOk (c : Cmd) (s : State) : StaysOk (runLaneResync c s) s := by
  have resynced (n : Fin 4) : StaysOk ((abandon n s).modLane n fun l => l.toSearch true) s :=
    abandon_modLane_staysOk (fun _ => rfl) fun _ _ => ⟨.inr rfl, rfl, rfl⟩
  unfold runLaneResync
  dsimp only
  split
  case h_4 | h_5 | h_6 => exact .of_keeps (endCmd_keepsBlocks _ _ _ s)
  all_goals exact (StaysOk.of_keeps (endCmd_keepsBlocks _ _ _ _)).trans (resynced _)

/-! ### The course of a tick -/

theorem passTo_staysOk (k : Nat) (s : State) : StaysOk (passTo k s) s := by
  have settled (ns : List (Fin 4)) :
      StaysOk (if s.ctl.resetBusy then s else ns.foldl (fun s n => settleLane n s) s) s := by
    split
    · exact .refl s
    · exact foldl_staysOk (fun s n => settleLane_staysOk n s) ns s
  unfold passTo
  dsimp only
  split
  · exact (StaysOk.of_keeps (releaseHeld_keepsBlocks _)).trans (settled _)
  · exact settled _

theorem tick_staysOk (s : State) : StaysOk (tick s) s :=
  (StaysOk.of_keeps (advanceTimers_keepsBlocks _)).trans
    ((StaysOk.of_keeps (evaluate_keepsBlocks _)).trans (passTo_staysOk _ s))

theorem arrive_staysOk (c : Instr) (s : State) : StaysOk (arrive c s) s := by
  have stands : KeepsBlocks (arrive c s) (passTo (slot (tickFor c s) c) (tickFor c s)) := ⟨rfl, rfl, rfl, rfl, rfl⟩
  have passed : StaysOk (arrive c s) (tickFor c s) := (StaysOk.of_keeps stands).trans (passTo_staysOk _ _)
  refine passed.trans ?_
  unfold tickFor
  split
  · exact .refl s
  · exact tick_staysOk s

/-- A command in its turn. -/
theorem exec_staysOk (i : Instr) (s : State) : ∃ t, exec i s = .next t ∧ StaysOk t (arrive i s) := by
  cases i with
  | powerOnReset | hostReset => exact ⟨_, rfl, staysOk_of_reset ⟨rfl, rfl, rfl, rfl, rfl⟩⟩
  | storeOperationDone => exact ⟨_, rfl, opDone_staysOk _ _⟩
  | accessError | registerWrite => exact ⟨_, rfl, access_staysOk _ _ _ _ _ _⟩
  | deviceReset | laneConfigWrite | laneEnable | laneDisable | linjWrite | tgcfgWrite | rpostWrite
  | routeConfigWrite | windowWrite | crbaseWrite | completionRingEnable | completionRingDisable | crconsWrite
  | bshedWrite | bstatWrite | evpop | complClear | cmpmodWrite | commandIssue =>
    exact ⟨_, rfl, hostWriteReg_staysOk _ _ _⟩
  | resetDone => exact ⟨_, rfl, resetDoneAt_staysOk _⟩
  | clockLost => exact ⟨_, rfl, clockLostAt_staysOk _ _⟩
  | clockRestored => exact ⟨_, rfl, clockRestoredAt_staysOk _ _⟩
  | syncFound => exact ⟨_, rfl, syncFoundAt_staysOk _ _⟩
  | syncPosition => exact ⟨_, rfl, syncPositionAt_staysOk _ _⟩
  | polarityFlipped => exact ⟨_, rfl, flipRow_staysOk _ _⟩
  | headerExtent => exact ⟨_, rfl, headerExtentAt_staysOk _ _⟩
  | frameEnd => exact ⟨_, rfl, frameEndAt_staysOk _ _⟩
  | laneBitSampled => exact ⟨_, rfl, clockEdge_staysOk _ _ _ _⟩
  | injectBitFeed => exact ⟨_, rfl, feedAt_staysOk _ _⟩
  | laneResync => exact ⟨_, rfl, runCmd_staysOk fun c => runLaneResync_staysOk c _⟩
  | routeAbort => exact ⟨_, rfl, runCmd_staysOk (runRouteCmd_staysOk fun r => abortCmd_staysOk r _)⟩
  | recordPlace => exact ⟨_, rfl, engineStep_staysOk (placeTurn_staysOk _)⟩
  | payloadWrite => exact ⟨_, rfl, engineStep_staysOk (continueRecord_staysOk _ _)⟩
  | acceptedTransition input level =>
    cases input with
    | sync => exact ⟨_, rfl, .of_keeps (sampleSync_keepsBlocks _ _)⟩
    | trig n => exact ⟨_, rfl, .of_keeps (sampleTrigger_keepsBlocks n level _)⟩
  | nop | matchWrite | counterSnapshot | epochLoadNow | storeRead | storeWrite | storeLock
  | storeReload | quiesce | unquiesce =>
    exact ⟨_, rfl, runCmd_staysOk fun c => .of_keeps (by simp [runNop, runEpochLoad, loadEpoch])⟩
  | routeArm | routeStart | routeStop | routeResume | routeFlush =>
    exact ⟨_, rfl, runCmd_staysOk (runRouteCmd_staysOk fun r => .of_keeps (by simp))⟩
  | descriptorFetch | bufferOpen | lingerExpiry | bufferCloseStop | bufferCloseQuiesce | completionEntry | cancelEntry
  | backlogDrain =>
    exact ⟨_, rfl, engineStep_staysOk (.of_keeps (by simp))⟩
  | routeDrained | routeAbortDone | quiesced =>
    exact ⟨_, rfl, engineStep_staysOk (.ite fun _ => .of_keeps (by simp))⟩
  | interruptMessage => exact ⟨_, rfl, .of_keeps (by dsimp only; split <;> simp)⟩
  | _ => exact ⟨_, rfl, .of_keeps (by simp)⟩

/-- Every step, the end of a tick or a command in its turn, keeps both invariants. -/
theorem step_staysOk {s t : State} (h : step s = .next t) : StaysOk t s := by
  unfold step at h
  split at h
  · cases h
    exact tick_staysOk s
  · rename_i c rest _
    obtain ⟨u, hexec, hu⟩ := exec_staysOk c { s with pending := rest }
    rw [h] at hexec
    cases hexec
    exact hu.trans ((arrive_staysOk c _).trans (.of_keeps ⟨rfl, rfl, rfl, rfl, rfl⟩))

/-- Settles O6: every step keeps the account of blocks, with what R69 asks of each lane beside it (`step_staysOk`). -/
theorem stepKeepsEveryBlockInOnePlace : Obligations.StepKeepsEveryBlockInOnePlace :=
  fun _ _ hs hstep => (step_staysOk hstep).blocks hs

/-- Settles O7: only whole writes of bytes touch buffer memory, and each keeps its form (`step_staysOk`). -/
theorem stepKeepsMemoryCanonical : Obligations.StepKeepsMemoryCanonical :=
  fun _ _ hs hstep => (step_staysOk hstep).mem hs

end Sys2Proof.Machine
end

section
/-! SUPPORT. Host writes of the ring counts and of the buffer manager's levels (R78, R86, R110, R126): the
statement O38. -/

namespace Sys2Proof.Machine

/-- Count p lies at most a ring ahead of RDONE and not behind RFETCH (R110). -/
def Route.TakesPost (x : Route) (p : Count) : Prop :=
  (p - x.rdone).toNat ≤ 2 ^ fieldOf x.rcfg 16 4 ∧ (x.rfetch - x.rdone).toNat ≤ (p - x.rdone).toNat

/-- Count q lies between CRCONS and CRPROD (R126). -/
def Engine.TakesCons (e : Engine) (q : Count) : Prop := (q - e.crcons).toNat ≤ (e.crprod - e.crcons).toNat

section
variable {data : Word} {s : State}

theorem writeRpost_taken {r : Fin 16} (h : (s.route r).TakesPost (data.extractLsb' 0 16)) :
    writeRpost r data s = s.setRoute r { s.route r with rpost := data.extractLsb' 0 16 } :=
  if_pos h

/-- A count that RPOST does not take is told with the counts held (R110). -/
theorem writeRpost_ignored {r : Fin 16} (h : ¬(s.route r).TakesPost (data.extractLsb' 0 16)) :
    writeRpost r data s =
      { s with
        ev :=
          (post 0x60 (srcIdx r) (packWord [((data.extractLsb' 0 16 : Count).toNat, 0), (0, 16)])
            (packWord [((s.route r).rdone.toNat, 0), ((s.route r).rfetch.toNat, 16)]) s).ev } :=
  if_neg h

theorem writeCrcons_taken (hon : s.eng.crEnable = true) (h : s.eng.TakesCons (data.extractLsb' 0 16)) :
    writeCrcons data s = { s with eng := { s.eng with crcons := data.extractLsb' 0 16 } } :=
  (if_pos hon).trans (if_pos h)

/-- A count that CRCONS does not take is told with the counts held (R126). -/
theorem writeCrcons_ignored (hon : s.eng.crEnable = true) (h : ¬s.eng.TakesCons (data.extractLsb' 0 16)) :
    writeCrcons data s =
      { s with
        ev :=
          (post 0x60 noSource (packWord [((data.extractLsb' 0 16 : Count).toNat, 0), (1, 16)])
            (packWord [(s.eng.crprod.toNat, 0), (s.eng.crcons.toNat, 16)]) s).ev } :=
  (if_pos hon).trans (if_neg h)

/-- While the ring is disabled CRCONS holds (R126). -/
theorem writeCrcons_disabled (hoff : s.eng.crEnable = false) : writeCrcons data s = s :=
  if_neg (by simp [hoff])

/-- A BSHED write that leaves 256 free blocks or more above the new level clears SHED and tells it (R78, R86). -/
theorem writeBshed_clears (hshed : s.buf.shed = true)
    (hfree : (data.extractLsb' 0 14 : BitVec 14).toNat + 256 ≤ s.buf.free.length) :
    writeBshed data true s =
      { s with
        buf := { s.buf with bshed := data.extractLsb' 0 14, shed := false }
        ev :=
          (post 0x41 noSource (BitVec.ofNat 32 s.buf.free.length)
            (BitVec.ofNat 32 (data.extractLsb' 0 14 : BitVec 14).toNat) s).ev } :=
  if_pos ⟨hshed, hfree⟩

/-- Any other BSHED write sets the level alone. -/
theorem writeBshed_sets
    (h : s.buf.shed = false ∨ s.buf.free.length < (data.extractLsb' 0 14 : BitVec 14).toNat + 256) :
    writeBshed data true s = { s with buf := { s.buf with bshed := data.extractLsb' 0 14 } } := by
  refine if_neg fun ⟨shed, free⟩ => ?_
  rcases h with clear | short
  · exact absurd (clear.symm.trans shed) Bool.false_ne_true
  · exact absurd free (Nat.not_le.mpr short)

end

/-- Settles O38: each write by what it does with a count it takes, a count it ignores, and a level. -/
theorem countAndLevelWrites : Obligations.CountAndLevelWrites := by
  refine ⟨fun r data s hload hbusy => ?counts, fun data s hload hbusy => ?levels⟩
  case counts =>
    have rpost : Acts (.rpostWrite r data) s (hostWriteReg (.rpost r) data s) := acts_inTurn (fun _ => rfl) s
    have crcons : Acts (.crconsWrite data) s (hostWriteReg .crcons data s) := acts_inTurn (fun _ => rfl) s
    rw [hostWriteReg_writable hload hbusy] at rpost crcons
    change Acts _ s (writeRpost r data s) at rpost
    change Acts _ s (writeCrcons data s) at crcons
    refine ⟨fun taken => ?_, fun ignored => ?_, fun on taken => ?_, fun on ignored => ?_, fun off => ?_⟩
    · rwa [writeRpost_taken taken] at rpost
    · rwa [writeRpost_ignored ignored] at rpost
    · rwa [writeCrcons_taken on taken] at crcons
    · rwa [writeCrcons_ignored on ignored] at crcons
    · rwa [writeCrcons_disabled off] at crcons
  case levels =>
    have bshed : Acts (.bshedWrite data) s (hostWriteReg .bshed data s) := acts_inTurn (fun _ => rfl) s
    have bstat : Acts (.bstatWrite data) s (hostWriteReg .bstat data s) := acts_inTurn (fun _ => rfl) s
    rw [hostWriteReg_writable hload hbusy] at bshed bstat
    change Acts _ s (writeBshed data true s) at bshed
    refine ⟨fun shed room => ?_, fun still => ?_, bstat⟩
    · rwa [writeBshed_clears shed room] at bshed
    · rwa [writeBshed_sets still] at bshed

end Sys2Proof.Machine
end

section
/-! SUPPORT. Opening a buffer or halting on a faulty descriptor (R102, R116), the closing of a buffer by LINGER, STOP or
QUIESCE (R99, R122, R123, R180), and the return to DISABLED (R99, R101): the statements O54, O57 and O60. -/

namespace Sys2Proof.Machine

/-! ### What the engine asks about a route -/

/-- A record is in progress on a route when the record in progress names it (R117). -/
theorem inProgressOn_iff (s : State) (r : Fin 16) :
    inProgressOn s r = true ↔ ∃ p, s.eng.inProg = some p ∧ p.route = r := by
  unfold inProgressOn
  cases s.eng.inProg <;> simp

/-- A route has an entry in the backlog when an entry there names it (R127). -/
theorem hasBacklog_iff (s : State) (r : Fin 16) :
    hasBacklog s r = true ↔ ∃ c ∈ s.eng.backlog, c.route = r := by
  simp only [hasBacklog, List.any_eq_true, beq_iff_eq]

/-- A route delivers while it is RUNNING or STOPPING (R92). -/
theorem delivers_iff (x : Route) : x.delivers = true ↔ x.st = .running ∨ x.st = .stopping := by
  simp only [Route.delivers, Bool.or_eq_true, beq_iff_eq]

/-- A route has an open buffer when its buffer was not closed. -/
theorem hasOpen_iff (x : Route) : x.hasOpen = true ↔ ∃ b, x.buf = some b ∧ b.closed = none := by
  unfold Route.hasOpen
  cases x.buf <;> simp

/-! ### Opening a buffer (R116, R102) -/

section
variable {r : Fin 16} {e : CacheEntry} {rest : List CacheEntry} {s : State}

/-- A good descriptor at the cache head is opened. -/
theorem openBuffer_good {d : DescData} (hneeds : needsBuffer s r = true) (hcache : (s.route r).cache = e :: rest)
    (hgood : e.fault = none) (hdata : e.data = some d) :
    openBuffer r s = s.setRoute r { s.route r with cache := rest, buf := some (openedBuffer e.idx d) } := by
  simp only [openBuffer, hneeds, if_true, hcache, hgood, hdata]
  rfl

/-- A faulty descriptor at the cache head halts the route (R102). -/
theorem openBuffer_faulty {f : DescFault} (hneeds : needsBuffer s r = true)
    (hcache : (s.route r).cache = e :: rest) (hfault : e.fault = some f) :
    openBuffer r s = haltRoute r f e.idx s := by
  simp only [openBuffer, hneeds, if_true, hcache, hfault]

end

/-- Settles O54, by the fault of the descriptor at the cache head. -/
theorem bufferOpensOrRouteHalts : Obligations.BufferOpensOrRouteHalts := by
  intro r e rest s x hbusy hst hqueue hbuf hfree hbacklog hcache
  have act : Acts (.bufferOpen r) s (openBuffer r s) := acts_engineStep (fun _ => rfl) hbusy
  have needs : needsBuffer s r = true := by
    have delivers : (s.route r).delivers = true := (delivers_iff x).mpr hst
    have queue : (s.route r).queue ≠ [] := hqueue
    have buf : (s.route r).buf = none := hbuf
    simp [needsBuffer, delivers, queue, buf, inProgressOn_false hfree, hasBacklog_false hbacklog]
  refine ⟨fun d good data => ?opens, fun f fault => ?halts⟩
  case opens =>
    rw [openBuffer_good needs hcache good data] at act
    exact act
  case halts =>
    rw [openBuffer_faulty needs hcache fault] at act
    exact act

/-! ### Closing a buffer (R122, R99, R180) -/

/-- LINGER is due for an open buffer that holds a record, with none in progress into it, once its timer has counted
RLINGER kiloticks (R122). -/
theorem lingerDue_iff {s : State} {r : Fin 16} {b : Buffer} (hbuf : (s.route r).buf = some b) :
    lingerDue s r = true ↔ b.closed = none ∧ b.count ≠ 0 ∧ inProgressOn s r = false
      ∧ (s.route r).lingerLimit ≠ 0 ∧ ∃ k, b.linger = some k ∧ (s.route r).lingerLimit * 1024 ≤ k := by
  unfold lingerDue
  rw [hbuf]
  cases hl : b.linger <;> simp [hl, and_assoc, Config.kilotick]

/-- Nothing is left to place in an open buffer with no frame in assembly, no queue and no record in progress. -/
theorem drainedOpen_iff (s : State) (r : Fin 16) :
    drainedOpen s r = true ↔ (s.route r).hasOpen = true ∧ framesFor s r = 0 ∧ (s.route r).queue = []
      ∧ inProgressOn s r = false := by
  simp [drainedOpen, and_assoc]

section
variable {s : State} {r : Fin 16} {due : Bool} {why : Reason}

/-- LINGER is tried first (R123). -/
theorem tryClose_linger (h : lingerDue s r = true) : tryClose due why r s = closeBuffer r .linger s := if_pos h

theorem tryClose_due (h : lingerDue s r = false) (hdue : due = true) :
    tryClose due why r s = closeBuffer r why s := by
  simp [tryClose, h, hdue]

theorem tryClose_notDue (h : lingerDue s r = false) (hdue : due = false) : tryClose due why r s = s := by
  simp [tryClose, h, hdue]

end

/-- Settles O57, by whether the buffer is closed, and if not whether its linger is due. -/
theorem buffersCloseForTheirReason : Obligations.BuffersCloseForTheirReason := by
  intro r b s hbusy hbuf y three closes
  have linger : Acts (.lingerExpiry r) s (tryClose false .linger r s) := acts_engineStep (fun _ => rfl) hbusy
  have stop : Acts (.bufferCloseStop r) s (tryClose (stopCloseDue s r) .stop r s) :=
    acts_engineStep (f := fun s => tryClose (stopCloseDue s r) .stop r s) (fun _ => rfl) hbusy
  have quiesce : Acts (.bufferCloseQuiesce r) s (tryClose (quiesceCloseDue s r) .quiesce r s) :=
    acts_engineStep (f := fun s => tryClose (quiesceCloseDue s r) .quiesce r s) (fun _ => rfl) hbusy
  refine ⟨fun hclosed => ?closed, fun hopen hfree => ⟨fun k timer count limit reached => ?due, fun early => ?notDue⟩⟩
  case closed =>
    have notDue : lingerDue s r = false :=
      Bool.eq_false_iff.mpr fun due => hclosed ((lingerDue_iff hbuf).mp due).1
    have shut : drainedOpen s r = false := by
      refine Bool.eq_false_iff.mpr fun due => ?_
      obtain ⟨isOpen, -⟩ := (drainedOpen_iff s r).mp due
      obtain ⟨b', hb', unclosed⟩ := (hasOpen_iff _).mp isOpen
      exact hclosed (Option.some.inj (hb'.symm.trans hbuf) ▸ unclosed)
    rw [tryClose_notDue notDue rfl] at linger
    rw [tryClose_notDue notDue (by simp [stopCloseDue, shut])] at stop
    rw [tryClose_notDue notDue (by simp [quiesceCloseDue, shut])] at quiesce
    exact ⟨linger, stop, quiesce⟩
  case due =>
    have due : lingerDue s r = true :=
      (lingerDue_iff hbuf).mpr ⟨hopen, count, inProgressOn_false hfree, limit, k, timer, reached⟩
    rw [tryClose_linger due, closeBuffer_open _ hbuf hopen] at linger stop quiesce
    exact ⟨linger, stop, quiesce⟩
  case notDue =>
    have notDue : lingerDue s r = false := by
      refine Bool.eq_false_iff.mpr fun due => ?_
      obtain ⟨-, -, -, -, k, timer, reached⟩ := (lingerDue_iff hbuf).mp due
      rcases early with stopped | ⟨k', timer', running⟩
      · exact absurd (stopped.symm.trans timer) (by simp)
      · cases timer'.symm.trans timer
        exact absurd reached (Nat.not_le.mpr running)
    have left (hframes : framesFor s r = 0) (hqueue : y.queue = []) : drainedOpen s r = true :=
      (drainedOpen_iff s r).mpr ⟨(hasOpen_iff _).mpr ⟨b, hbuf, hopen⟩, hframes, hqueue, inProgressOn_false hfree⟩
    rw [tryClose_notDue notDue rfl] at linger
    refine ⟨linger, fun hst hframes hqueue => ?_, fun hst quieting hframes hqueue => ?_⟩
    · have due : stopCloseDue s r = true := by
        rw [stopCloseDue, left hframes hqueue, Bool.and_true, beq_iff_eq]
        exact hst
      rwa [tryClose_due notDue due, closeBuffer_open _ hbuf hopen] at stop
    · have due : quiesceCloseDue s r = true := by
        rw [quiesceCloseDue, left hframes hqueue, Bool.and_true, Bool.and_eq_true, beq_iff_eq, Machine.quieting,
          Bool.or_eq_true]
        exact ⟨quieting, hst⟩
      rwa [tryClose_due notDue due, closeBuffer_open _ hbuf hopen] at quiesce

/-! ### Return to DISABLED (R99, R101) -/

/-- A STOPPING route has drained when it holds nothing any more (R99). -/
theorem drained_iff (s : State) (r : Fin 16) :
    drained s r = true ↔ (s.route r).st = .stopping ∧ framesFor s r = 0 ∧ (s.route r).queue = []
      ∧ inProgressOn s r = false ∧ (s.route r).buf = none ∧ hasBacklog s r = false ∧ (s.route r).read = none := by
  simp [drained, and_assoc]

/-- An ABORTING route is done when every posted descriptor has been returned (R101). -/
theorem abortDone_iff (s : State) (r : Fin 16) :
    abortDone s r = true ↔ (s.route r).st = .aborting ∧ (s.route r).buf = none
      ∧ (s.route r).rdone = (s.route r).rpost ∧ hasBacklog s r = false ∧ (s.route r).read = none := by
  simp [abortDone, and_assoc]

/-- Settles O60, by what the route still holds. -/
theorem drainedAndAbortedRoutesClose : Obligations.DrainedAndAbortedRoutesClose := by
  intro r s hbusy y closes
  have drain : Acts (.routeDrained r) s (if drained s r then closeRoute r 0 s else s) :=
    acts_engineStep (f := fun s => if drained s r then closeRoute r 0 s else s) (fun _ => rfl) hbusy
  have abort : Acts (.routeAbortDone r) s (if abortDone s r then closeRoute r 1 s else s) :=
    acts_engineStep (f := fun s => if abortDone s r then closeRoute r 1 s else s) (fun _ => rfl) hbusy
  refine ⟨fun hst hframes hqueue hbuf hread hfree hbacklog => ?drains, fun hst hbuf hread hdone hbacklog => ?aborts,
    fun holds => ?undrained, fun holds => ?unaborted⟩
  case drains =>
    rwa [if_pos ((drained_iff s r).mpr
      ⟨hst, hframes, hqueue, inProgressOn_false hfree, hbuf, hasBacklog_false hbacklog, hread⟩)] at drain
  case aborts =>
    rwa [if_pos ((abortDone_iff s r).mpr ⟨hst, hbuf, hdone, hasBacklog_false hbacklog, hread⟩)] at abort
  case undrained =>
    rwa [if_neg] at drain
    intro done
    obtain ⟨hst, hframes, hqueue, -, hbuf, hbacklog, hread⟩ := (drained_iff s r).mp done
    rw [← Bool.not_eq_true, hasBacklog_iff] at hbacklog
    rcases holds with h | h | h | h | h | h
    exacts [h hst, h hframes, h hqueue, h hbuf, h hread, hbacklog h]
  case unaborted =>
    rwa [if_neg] at abort
    intro done
    obtain ⟨hst, -, hdone, hbacklog, hread⟩ := (abortDone_iff s r).mp done
    rw [← Bool.not_eq_true, hasBacklog_iff] at hbacklog
    rcases holds with h | h | h | h
    exacts [h hst, h hread, h hdone, hbacklog h]

end Sys2Proof.Machine
end

section
/-! SUPPORT. Host writes that wait for DISABLED routes (R88 to R90, R114, R125): the statement O37. -/

namespace Sys2Proof.Machine

/-- A host write acts by its register while no boot load and no device reset is in progress (R8). -/
theorem acts_hostWrite {c : Instr} {g : Reg} {data : Word} {s : State}
    (hc : ∀ s₀, exec c s₀ = inTurn c (hostWriteReg g data) s₀) (hload : s.ctl.loading = false)
    (hbusy : s.ctl.resetBusy = false) : Acts c s (writeReg true data s g).1 := by
  have act := acts_inTurn hc s
  rwa [hostWriteReg_writable hload hbusy] at act

/-! ### The words of a window (R114) -/

theorem window_reg_withReg (w : Window) (g k : WindowReg) (x : Word) :
    (w.withReg g x).reg k = if k = g then x else w.reg k := by
  cases g <;> cases k <;> rfl

/-- The state with one word of a window replaced. -/
def State.withWindowWord (s : State) (w : Fin 4) (reg : WindowReg) (data : Word) : State :=
  { s with eng := { s.eng with windows := s.eng.windows.set w.val ((s.eng.windows[w.val]).withReg reg data) } }

theorem readReg_withWindowWord_self (s : State) (w : Fin 4) (reg : WindowReg) (data : Word) :
    readReg (s.withWindowWord w reg data) (.window w reg) = data := by
  change ((s.eng.windows.set w.val _)[w.val]).reg reg = data
  rw [Vector.getElem_set_self, window_reg_withReg, if_pos rfl]

/-- A word of another window, or another word of the window, reads as before. -/
theorem readReg_withWindowWord_ne (s : State) {w v : Fin 4} {reg g : WindowReg} (data : Word)
    (h : v ≠ w ∨ g ≠ reg) :
    readReg (s.withWindowWord w reg data) (.window v g) = readReg s (.window v g) := by
  change ((s.eng.windows.set w.val _)[v.val]).reg g = (s.eng.windows[v.val]).reg g
  by_cases same : v = w
  · subst same
    rw [Vector.getElem_set_self, window_reg_withReg, if_neg (h.resolve_left (not_not_intro rfl))]
  · rw [Vector.getElem_set_ne _ _ fun e => same (Fin.ext e.symm)]

/-! ### Writes that wait for DISABLED routes (R90, R114, R125) -/

section
variable {s : State} (data : Word)

/-- A route's word is written while the route is DISABLED, and refused otherwise (R90). -/
theorem writeRouteReg_eq (r : Fin 16) (reg : RouteReg) :
    (writeRouteReg r reg data true s).1 =
      if (s.route r).st = .disabled then
        s.setRoute r ((s.route r).withReg reg (routeRegValue reg ((s.route r).reg reg) data))
      else { s with ev := (post 0x91 (srcIdx r) (BitVec.ofNat 32 (regOffset (.route r reg))) data s).ev } := by
  by_cases h : (s.route r).st = .disabled
  · simp only [writeRouteReg, if_pos h]
  · simp only [writeRouteReg, if_neg h]
    rfl

theorem writeWindow_free {w : Fin 4} (reg : WindowReg) (h : windowFree s w = true) :
    (writeWindow w reg data true s).1 = s.withWindowWord w reg data := by
  rw [writeWindow, if_pos h]
  rfl

/-- A word of a window that a route uses which is not DISABLED is refused (R114). -/
theorem writeWindow_used {w : Fin 4} (reg : WindowReg) (h : windowFree s w ≠ true) :
    (writeWindow w reg data true s).1 =
      { s with ev := (post 0x91 noSource (BitVec.ofNat 32 (regOffset (.window w reg))) data s).ev } := by
  rw [writeWindow, if_neg h]
  rfl

/-- A word of the ring base is refused while a route is not DISABLED (R125). -/
theorem writeCrbase_used (half : BaseHalf) (h : allDisabled s ≠ true) :
    (writeCrbase half data true s).1 =
      { s with ev := (post 0x91 noSource (BitVec.ofNat 32 (regOffset (.crbase half))) data s).ev } := by
  rw [writeCrbase.eq_def, if_neg h]
  rfl

end

/-! ### The values of route words (R88, R89) -/

theorem toNat_and_low15 (x : Word) : (x &&& 0x00007FFF#32).toNat = x.toNat % 32768 := by
  rw [BitVec.toNat_and]
  exact Nat.and_two_pow_sub_one_eq_mod x.toNat 15

theorem fieldOf_low15 (x : Word) : fieldOf x 0 15 = x.toNat % 32768 := by
  simp [fieldOf]

/-- A quota of at most 16384 is taken (R89). -/
theorem routeRegValue_quota_taken (old : Word) {new : Word} (h : new.toNat % 32768 ≤ 16384) :
    (routeRegValue .rquota old new).toNat = new.toNat % 32768 := by
  rw [routeRegValue, if_neg (by rw [fieldOf_low15]; exact Nat.not_lt.mpr h), toNat_and_low15]

/-- A quota above 16384 leaves the quota as it was (R89). -/
theorem routeRegValue_quota_kept (old : Word) {new : Word} (h : 16384 < new.toNat % 32768) :
    routeRegValue .rquota old new = old := by
  rw [routeRegValue, if_pos (by rw [fieldOf_low15]; exact h)]

/-- Settles O37: each write by its guard, and the route words by their masks. -/
theorem guardedConfigurationWords : Obligations.GuardedConfigurationWords := by
  refine ⟨?writes, fun old new => ⟨rfl, rfl, rfl, rfl, rfl, rfl, routeRegValue_quota_taken old,
    routeRegValue_quota_kept old⟩⟩
  intro data s hload hbusy refused
  refine ⟨fun r reg => ?route, fun w reg => ?window, fun all => ?base, fun some half => ?baseRefused⟩
  case route =>
    have act : Acts (.routeConfigWrite r reg data) s (writeRouteReg r reg data true s).1 :=
      acts_hostWrite (g := .route r reg) (fun _ => rfl) hload hbusy
    rwa [writeRouteReg_eq] at act
  case window =>
    have act : Acts (.windowWrite w reg data) s (writeWindow w reg data true s).1 :=
      acts_hostWrite (g := .window w reg) (fun _ => rfl) hload hbusy
    refine ⟨fun disabled => ?_, fun ⟨r, uses, enabled⟩ => ?_⟩
    · rw [writeWindow_free data reg ((windowFree_iff s w).mpr disabled)] at act
      exact ⟨_, act, readReg_withWindowWord_self s w reg data, fun v g => readReg_withWindowWord_ne s data, rfl⟩
    · rwa [writeWindow_used data reg fun free => enabled ((windowFree_iff s w).mp free r uses)] at act
  case base =>
    have act (half : BaseHalf) : Acts (.crbaseWrite half data) s (writeCrbase half data true s).1 :=
      acts_hostWrite (g := .crbase half) (fun _ => rfl) hload hbusy
    have written (half : BaseHalf) := act half
    simp only [writeCrbase, if_pos ((allDisabled_iff s).mpr all)] at written
    exact ⟨written .lo, written .hi⟩
  case baseRefused =>
    have act : Acts (.crbaseWrite half data) s (writeCrbase half data true s).1 :=
      acts_hostWrite (g := .crbase half) (fun _ => rfl) hload hbusy
    obtain ⟨r, enabled⟩ := some
    rwa [writeCrbase_used data half fun all => enabled ((allDisabled_iff s).mp all r)] at act

end Sys2Proof.Machine
end

section
/-! SUPPORT. Arming, starting, stopping, resuming and flushing a route by command (R93 to R95, R98, R103 to R105): the
statements O49 and O50. -/

namespace Sys2Proof.Machine

/-! ### A route command (R93) -/

theorem routeOfTarget {c : Cmd} {r : Fin 16} (h : c.target = BitVec.ofNat 8 r.val) : c.route = r := by
  have target : ∀ r : Fin 16, Fin.ofNat 16 (BitVec.ofNat 8 r.val).toNat = r := by decide
  rw [Cmd.route, h, target]

/-- A route's number is a target of the route commands (TABLE 10-1). -/
theorem targetOk_route {op : Byte} (hop : 0x10 ≤ op.toNat ∧ op.toNat ≤ 0x15) (r : Fin 16) :
    targetOk op (BitVec.ofNat 8 r.val) = true := by
  have hr : (BitVec.ofNat 8 r.val).toNat < 16 := by
    rw [BitVec.toNat_ofNat]
    omega
  rw [targetOk, if_neg (by omega), if_pos hop, decide_eq_true hr]

/-- State t once the result of a route command that moved its route from `before` to `after` is generated and the
command has left the FIFO. -/
def State.withResult (t : State) (c : Cmd) (rest : List Cmd) (res : Result) (before after : RouteState) : State :=
  { t with
    ev :=
      (post (resultCause res) c.target c.detail (packWord [(routeCode before, 0), (routeCode after, 8)]) t).ev
    cmd := { t.cmd with fifo := rest } }

/-- Details of results and of 0x50 as the statements spell them. -/
theorem codes_disabled : packWord [(routeCode .disabled, 0), (routeCode .disabled, 8)] = 0 := by decide

/-- See `codes_disabled`. -/
theorem codes_armed : packWord [(routeCode .disabled, 0), (routeCode .armed, 8)] = 0x100 := by decide

/-- Detail A of 0x50: what started the route (R95, R96). -/
def startDetail : Option (Fin 4) → Word
  | none => 0xFF00
  | some n => BitVec.ofNat 32 (1 + 256 * n.val)

theorem startDetail_command : packWord [(0, 0), (0xFF, 8)] = startDetail none := by decide

theorem startDetail_line (n : Fin 4) : packWord [(1, 0), (n.val, 8)] = startDetail (some n) := by
  revert n
  decide

/-- The row of a route command and its effect on the route. -/
structure RouteRow (i : Instr) (op : Byte) (act : Fin 16 → State → State × Result) : Prop where
  row : ∀ s₀, exec i s₀ = inTurn i (runCmd op (runRouteCmd act)) s₀
  opcode : 0x10 ≤ op.toNat ∧ op.toNat ≤ 0x15

theorem armRow : RouteRow .routeArm 0x10 armRoute := ⟨fun _ => rfl, by decide⟩
theorem startRow : RouteRow .routeStart 0x11 startCmd := ⟨fun _ => rfl, by decide⟩
theorem stopRow : RouteRow .routeStop 0x12 stopCmd := ⟨fun _ => rfl, by decide⟩
theorem abortRow : RouteRow .routeAbort 0x13 abortCmd := ⟨fun _ => rfl, by decide⟩
theorem resumeRow : RouteRow .routeResume 0x14 resumeCmd := ⟨fun _ => rfl, by decide⟩
theorem flushRow : RouteRow .routeFlush 0x15 flushCmd := ⟨fun _ => rfl, by decide⟩

section
variable {i : Instr} {op : Byte} {act : Fin 16 → State → State × Result} {r : Fin 16} {c : Cmd} {rest : List Cmd}
  {s t : State} {res : Result}

/-- A route command acts by its effect on its route, and its result tells the states before and after. -/
theorem RouteRow.acts (row : RouteRow i op act) (hready : Ready s c rest) (hop : c.op = op)
    (htarget : c.target = BitVec.ofNat 8 r.val) (hact : act r s = (t, res)) (ht : Ready t c rest)
    {after : RouteState} (hafter : (t.route r).st = after) :
    Acts i s (t.withResult c rest res (s.route r).st after) := by
  have acts := acts_inTurn row.row s
  rw [runCmd_ready _ hready hop, hop, htarget, if_pos (targetOk_route row.opcode r), runRouteCmd,
    routeOfTarget htarget, hact] at acts
  dsimp only at acts
  rwa [endCmd_ready _ _ ht, hafter] at acts

/-- A route command that replaces its route. -/
theorem RouteRow.acts_setRoute (row : RouteRow i op act) (hready : Ready s c rest) (hop : c.op = op)
    (htarget : c.target = BitVec.ofNat 8 r.val) {y : Route} (hact : act r s = (s.setRoute r y, res)) :
    Acts i s ((s.setRoute r y).withResult c rest res (s.route r).st y.st) :=
  row.acts hready hop htarget hact hready (congrArg Route.st (route_setRoute s r y))

/-- A route command that changes nothing. -/
theorem RouteRow.acts_self (row : RouteRow i op act) (hready : Ready s c rest) (hop : c.op = op)
    (htarget : c.target = BitVec.ofNat 8 r.val) (hact : act r s = (s, res)) :
    Acts i s (s.withResult c rest res (s.route r).st (s.route r).st) :=
  row.acts hready hop htarget hact hready rfl

end

/-! ### The validity check (R93) -/

section
variable {s : State} {r : Fin 16}

/-- What the check finds wrong with a route: a ring size code outside 3 to 12 or a misaligned ring base. -/
def Route.BadRing (x : Route) : Prop := x.rsize < 3 ∨ 12 < x.rsize ∨ x.rrbaseLo.toNat % 64 ≠ 0

theorem validity_noRing (h : s.eng.crEnable = false) : validity s r = some .badState := if_pos h

theorem validity_badRing (hon : s.eng.crEnable = true) (h : (s.route r).BadRing) :
    validity s r = some .badArg :=
  (if_neg (by simp [hon])).trans (if_pos h)

theorem validity_passes (hon : s.eng.crEnable = true) (h : ¬(s.route r).BadRing) : validity s r = none :=
  (if_neg (by simp [hon])).trans (if_neg h)

/-! ### ROUTE_ARM (R94) -/

theorem armRoute_invalid {res : Result} (hst : (s.route r).st = .disabled) (h : validity s r = some res) :
    armRoute r s = (s, res) := by
  simp only [armRoute, hst, h]

theorem armRoute_valid (hst : (s.route r).st = .disabled) (h : validity s r = none) :
    armRoute r s = (s.setRoute r { s.route r with st := .armed }, .ok) := by
  simp only [armRoute, hst, h]
  rfl

theorem armRoute_armed (hst : (s.route r).st = .armed) : armRoute r s = (s, .noChange) := by
  rw [armRoute, hst]

theorem armRoute_badState (h : (s.route r).st ≠ .disabled) (h' : (s.route r).st ≠ .armed) :
    armRoute r s = (s, .badState) := by
  cases hst : (s.route r).st <;> simp_all [armRoute]

/-! ### ROUTE_START (R95, R105) -/

/-- A start of a route, field by field: RUNNING with its budget count at 0, 0x50, and the pulses of its start. -/
theorem startRoute_eq (r : Fin 16) (line : Option (Fin 4)) (s : State) :
    startRoute r line s =
      { s.setRoute r { s.route r with st := .running, rbcnt := 0 } with
        ev :=
          (post 0x50 (srcIdx r)
            (startDetail line)
            (packWord [((s.route r).queue.length, 0), (routeCode (s.route r).st, 16)]) s).ev
        trigs :=
          mapVec (fun g => if g.out && g.omode == 1 && g.psrc == 3 && g.route == r then g.startPulse else g)
            s.trigs } := by
  cases line with
  | none =>
    rw [← startDetail_command]
    rfl
  | some n =>
    rw [← startDetail_line]
    rfl

theorem startCmd_quiesced (h : s.ctl.quiesced = true) : startCmd r s = (s, .badState) := if_pos h

theorem startCmd_invalid {res : Result} (hq : s.ctl.quiesced = false) (hst : (s.route r).st = .disabled)
    (h : validity s r = some res) : startCmd r s = (s, res) := by
  simp only [startCmd, hq, hst, h, Bool.false_eq_true, if_false]

theorem startCmd_valid (hq : s.ctl.quiesced = false) (hst : (s.route r).st = .disabled)
    (h : validity s r = none) : startCmd r s = (startRoute r none s, .ok) := by
  simp only [startCmd, hq, hst, h, Bool.false_eq_true, if_false]

theorem startCmd_armed (hq : s.ctl.quiesced = false) (hst : (s.route r).st = .armed) :
    startCmd r s = (startRoute r none s, .ok) := by
  rw [startCmd, hq, hst]
  rfl

theorem startCmd_running (hq : s.ctl.quiesced = false) (hst : (s.route r).st = .running) :
    startCmd r s = (s, .noChange) := by
  rw [startCmd, hq, hst]
  rfl

theorem startCmd_badState (hst : (s.route r).st = .stopping ∨ (s.route r).st = .aborting ∨ (s.route r).st = .halted) :
    startCmd r s = (s, .badState) := by
  unfold startCmd
  rcases hst with hst | hst | hst <;> rw [hst] <;> exact ite_self _

/-- ROUTE_START that starts its route. -/
theorem acts_starts {c : Cmd} {rest : List Cmd} (hready : Ready s c rest) (hop : c.op = 0x11)
    (htarget : c.target = BitVec.ofNat 8 r.val) (hact : startCmd r s = (startRoute r none s, .ok)) :
    Acts .routeStart s ((startRoute r none s).withResult c rest .ok (s.route r).st .running) := by
  refine startRow.acts hready hop htarget hact hready ?_
  exact congrArg Route.st (route_setRoute s r { s.route r with st := .running, rbcnt := 0 })

end

/-- Settles O49: the rows by the route's state, on a DISABLED route by the outcome of the validity check. -/
theorem armAndStart : Obligations.ArmAndStart := by
  refine ⟨?moves, ?stays⟩
  case moves =>
    intro r c rest s hready htarget x n bad fails started
    have starts (hop : c.op = 0x11) (hact : startCmd r s = (startRoute r none s, .ok)) :
        Acts .routeStart s started := by
      have act := acts_starts hready hop htarget hact
      rwa [startRoute_eq] at act
    refine ⟨fun hop hst => ?arm, fun hop hq hst => ?start, fun hop hq hst => starts hop (startCmd_armed hq hst)⟩
    case arm =>
      have act (res : Result) (h : validity s r = some res) : Acts .routeArm s (fails (resultCause res)) := by
        have acts := armRow.acts_self hready hop htarget (armRoute_invalid hst h)
        rwa [hst, State.withResult, codes_disabled] at acts
      refine ⟨fun off => act .badState (validity_noRing off), fun on ring => act .badArg (validity_badRing on ring),
        fun on ring => ?_⟩
      have acts := armRow.acts_setRoute hready hop htarget (armRoute_valid hst (validity_passes on ring))
      rwa [hst, State.withResult, codes_armed] at acts
    case start =>
      have act (res : Result) (h : validity s r = some res) : Acts .routeStart s (fails (resultCause res)) := by
        have acts := startRow.acts_self hready hop htarget (startCmd_invalid hq hst h)
        rwa [hst, State.withResult, codes_disabled] at acts
      refine ⟨fun off => act .badState (validity_noRing off), fun on ring => act .badArg (validity_badRing on ring),
        fun on ring => ?_⟩
      exact starts hop (startCmd_valid hq hst (validity_passes on ring))
  case stays =>
    intro r c rest s hready htarget st ends
    have arm (res : Result) (hop : c.op = 0x10) (h : armRoute r s = (s, res)) :
        Acts .routeArm s (ends (resultCause res)) := armRow.acts_self hready hop htarget h
    have start (res : Result) (hop : c.op = 0x11) (h : startCmd r s = (s, res)) :
        Acts .routeStart s (ends (resultCause res)) := startRow.acts_self hready hop htarget h
    exact ⟨fun hop hst => arm .noChange hop (armRoute_armed hst),
      fun hop h h' => arm .badState hop (armRoute_badState h h'),
      fun hop hq => start .badState hop (startCmd_quiesced hq),
      fun hop hq hst => start .noChange hop (startCmd_running hq hst),
      fun hop hst => start .badState hop (startCmd_badState hst)⟩

/-! ### ROUTE_STOP, ROUTE_RESUME and ROUTE_FLUSH (R98, R103, R104, R105) -/

section
variable {s : State} {r : Fin 16}

theorem stopCmd_stops (h : (s.route r).st = .running ∨ (s.route r).st = .armed ∧ s.ctl.quiesced = false) :
    stopCmd r s = (s.setRoute r { s.route r with st := .stopping }, .ok) := by
  unfold stopCmd
  rcases h with hst | ⟨hst, hq⟩
  · rw [hst]
    rfl
  · rw [hst, hq]
    rfl

theorem stopCmd_stopping (hst : (s.route r).st = .stopping) : stopCmd r s = (s, .noChange) := by
  rw [stopCmd, hst]

theorem stopCmd_badState (h : (s.route r).st = .disabled ∨ (s.route r).st = .aborting ∨ (s.route r).st = .halted
    ∨ (s.route r).st = .armed ∧ s.ctl.quiesced = true) : stopCmd r s = (s, .badState) := by
  unfold stopCmd
  rcases h with hst | hst | hst | ⟨hst, hq⟩
  case inr.inr.inr =>
    rw [hst, hq]
    rfl
  all_goals rw [hst]

/-- A HALTED route returns to the state it left, with an empty cache and RFETCH at RDONE (R103). -/
theorem resumeCmd_halted (hst : (s.route r).st = .halted) (hq : s.ctl.quiesced = false) :
    resumeCmd r s =
      (s.setRoute r
        { s.route r with
          st := (s.route r).hfrom, cache := [], rfetch := (s.route r).rdone
          rbcnt := if (s.route r).hfrom = .running then 0 else (s.route r).rbcnt }, .ok) := by
  unfold resumeCmd
  rw [if_pos ⟨hst, hq⟩]
  by_cases back : (s.route r).hfrom = .running
  · simp only [if_pos back, enterRunning, modRoute_modRoute]
    rw [← back]
    rfl
  · simp only [if_neg back, State.modRoute]

theorem resumeCmd_badState (h : (s.route r).st ≠ .halted ∨ s.ctl.quiesced = true) :
    resumeCmd r s = (s, .badState) := by
  refine if_neg fun ⟨hst, hq⟩ => ?_
  rcases h with h | h
  · exact h hst
  · exact Bool.false_ne_true (hq.symm.trans h)

theorem flushCmd_open {b : Buffer} (hst : (s.route r).st = .running ∨ (s.route r).st = .stopping)
    (hbuf : (s.route r).buf = some b) (hopen : b.closed = none) :
    flushCmd r s
      = (s.setRoute r { s.route r with buf := some { b with closed := some .flush, linger := none } }, .ok) := by
  rw [flushCmd, if_pos ((delivers_iff _).mpr hst), if_pos ((hasOpen_iff _).mpr ⟨b, hbuf, hopen⟩),
    closeBuffer_open _ hbuf hopen]

theorem flushCmd_noBuffer (hst : (s.route r).st = .running ∨ (s.route r).st = .stopping)
    (hshut : ∀ b, (s.route r).buf = some b → b.closed ≠ none) : flushCmd r s = (s, .noChange) := by
  refine (if_pos ((delivers_iff _).mpr hst)).trans (if_neg fun isOpen => ?_)
  obtain ⟨b, hbuf, hopen⟩ := (hasOpen_iff _).mp isOpen
  exact hshut b hbuf hopen

theorem flushCmd_badState (h : (s.route r).st ≠ .running) (h' : (s.route r).st ≠ .stopping) :
    flushCmd r s = (s, .badState) :=
  if_neg fun delivers => ((delivers_iff _).mp delivers).elim h h'

end

/-- Settles O50: each row by the route's state. -/
theorem stopResumeAndFlush : Obligations.StopResumeAndFlush := by
  intro r c rest s hready htarget x ends
  have moves {i : Instr} {op : Byte} {act : Fin 16 → State → State × Result} (row : RouteRow i op act)
      (hop : c.op = op) (res : Result) (y : Route) (h : act r s = (s.setRoute r y, res)) :
      Acts i s (ends (resultCause res) y) := row.acts_setRoute hready hop htarget h
  have stays {i : Instr} {op : Byte} {act : Fin 16 → State → State × Result} (row : RouteRow i op act)
      (hop : c.op = op) (res : Result) (h : act r s = (s, res)) : Acts i s (ends (resultCause res) x) :=
    moves row hop res x (h.trans (by rw [setRoute_self]))
  refine ⟨fun hop => ⟨fun hst => ?_, fun hst => ?_, fun hst => ?_⟩, fun hop => ⟨fun hst hq => ?_, fun h => ?_⟩,
    fun hop => ⟨fun b hst hbuf hopen => ?_, fun hst hshut => ?_, fun h h' => ?_⟩⟩
  · exact moves stopRow hop .ok _ (stopCmd_stops hst)
  · exact stays stopRow hop .noChange (stopCmd_stopping hst)
  · exact stays stopRow hop .badState (stopCmd_badState hst)
  · exact moves resumeRow hop .ok _ (resumeCmd_halted hst hq)
  · exact stays resumeRow hop .badState (resumeCmd_badState h)
  · exact moves flushRow hop .ok _ (flushCmd_open hst hbuf hopen)
  · exact stays flushRow hop .noChange (flushCmd_noBuffer hst hshut)
  · exact stays flushRow hop .badState (flushCmd_badState h h')

end Sys2Proof.Machine
end

section
/-! SUPPORT. ROUTE_ABORT (R100, R101, R123): the frames it withdraws, the records it discards and the statement O51. -/

namespace Sys2Proof.Machine

/-! ### Blocks that go free -/

/-- From s to t the blocks have joined the tail of the free list. Lanes, SHED, the event queue and the trigger lines may
have changed with it, and nothing else has. -/
def Releases (blocks : List Nat) (s t : State) : Prop :=
  ∃ lanes sh ev trigs,
    t = { s with
      lanes := lanes, buf := { s.buf with free := s.buf.free ++ blocks, shed := sh }, ev := ev, trigs := trigs }

section
variable {b c : List Nat} {s t u : State}

theorem Releases.refl (s : State) : Releases [] s s := ⟨s.lanes, s.buf.shed, s.ev, s.trigs, by simp⟩

theorem Releases.trans (h : Releases b s t) (k : Releases c t u) : Releases (b ++ c) s u := by
  obtain ⟨_, _, _, _, rfl⟩ := h
  obtain ⟨lanes, sh, ev, trigs, rfl⟩ := k
  exact ⟨lanes, sh, ev, trigs, by simp⟩

theorem Releases.setRoute (h : Releases b s t) (r : Fin 16) (x : Route) :
    Releases b (s.setRoute r x) (t.setRoute r x) := by
  obtain ⟨lanes, sh, ev, trigs, rfl⟩ := h
  exact ⟨lanes, sh, ev, trigs, rfl⟩

theorem Releases.route (h : Releases b s t) (q : Fin 16) : t.route q = s.route q := by
  obtain ⟨lanes, sh, ev, trigs, rfl⟩ := h
  rfl

theorem Releases.eng (h : Releases b s t) : t.eng = s.eng := by
  obtain ⟨lanes, sh, ev, trigs, rfl⟩ := h
  rfl

theorem Releases.free (h : Releases b s t) : t.buf.free = s.buf.free ++ b := by
  obtain ⟨lanes, sh, ev, trigs, rfl⟩ := h
  rfl

theorem Releases.mem (h : Releases b s t) : t.buf.mem = s.buf.mem := by
  obtain ⟨lanes, sh, ev, trigs, rfl⟩ := h
  rfl

theorem Releases.bus (h : Releases b s t) : t.bus = s.bus := by
  obtain ⟨lanes, sh, ev, trigs, rfl⟩ := h
  rfl

theorem Releases.ready (h : Releases b s t) {c : Cmd} {rest : List Cmd} (hs : Ready s c rest) : Ready t c rest := by
  obtain ⟨lanes, sh, ev, trigs, rfl⟩ := h
  exact hs

/-- A lane is replaced and a chain released (R85). -/
theorem releaseChain_releases (r : Fin 16) (chain : List Nat) (n : Fin 4) (l : Lane) (s : State) :
    Releases chain s (releaseChain r chain (s.setLane n l)) := by
  obtain ⟨sh, ev, trigs, e, -⟩ := releaseChain_frame r chain (s.setLane n l)
  exact ⟨_, sh, ev, trigs, e⟩

@[simp] theorem releaseChain_lane (r : Fin 16) (chain : List Nat) (s : State) (m : Fin 4) :
    (releaseChain r chain s).lane m = s.lane m := by
  obtain ⟨sh, ev, trigs, e, -⟩ := releaseChain_frame r chain s
  rw [e]
  rfl

theorem Releases.setLane (h : Releases b s t) (n : Fin 4) (l : Lane) : Releases b s (t.setLane n l) := by
  obtain ⟨lanes, sh, ev, trigs, rfl⟩ := h
  exact ⟨_, sh, ev, trigs, rfl⟩

end

/-! ### Withdrawn frames (R101, step 1) -/

/-- The lane with its frame withdrawn from route r, if it is in assembly for it: ABANDONED counts it, and MARKSLOST
counts the marks it held. -/
def Lane.withdraw (r : Fin 16) (l : Lane) : Lane :=
  if l.assembling r then
    ((l.withFate .withdrawn).count .abandoned).addLost (if (l.frame.map FrameCtx.marked).getD false then 1 else 0)
  else l

/-- A lane assembles for a route when its frame is admitted to it. -/
theorem assembling_iff (l : Lane) (r : Fin 16) :
    l.assembling r = true ↔ ∃ f t, l.frame = some f ∧ f.fate = .admitted t ∧ t.route = r := by
  unfold Lane.assembling
  cases l.frame with
  | none => simp
  | some f => cases hf : f.fate <;> simp [hf]

theorem chainFor_of_assembling {l : Lane} {f : FrameCtx} {t : Ticket} (hf : l.frame = some f)
    (ht : f.fate = .admitted t) : l.chainFor t.route = t.chain := by
  simp [Lane.chainFor, hf, ht]

theorem chainFor_of_not_assembling {l : Lane} {r : Fin 16} (h : l.assembling r = false) : l.chainFor r = [] := by
  rw [← Bool.not_eq_true, assembling_iff] at h
  unfold Lane.chainFor
  split
  next f hf =>
    split
    next t ht => exact if_neg fun hr => h ⟨f, t, hf, ht, hr⟩
    next => rfl
  next => rfl

theorem withdrawFrame_of_not_assembling {r : Fin 16} {s : State} {n : Fin 4}
    (h : (s.lane n).assembling r = false) : withdrawFrame r s n = s := by
  rw [← Bool.not_eq_true, assembling_iff] at h
  unfold withdrawFrame
  split
  next f hf =>
    split
    next t ht => exact if_neg fun hr => h ⟨f, t, hf, ht, hr⟩
    next => rfl
  next => rfl

theorem withdrawFrame_of_assembling {r : Fin 16} {s : State} {n : Fin 4} (h : (s.lane n).assembling r = true) :
    withdrawFrame r s n
      = (releaseChain r ((s.lane n).chainFor r) (s.setLane n ((s.lane n).withFate .withdrawn))).setLane n
          ((s.lane n).withdraw r) := by
  obtain ⟨f, t, hf, ht, rfl⟩ := (assembling_iff _ _).mp h
  have withdraws : withdrawFrame t.route s n = loseMarks n f.marked
      (bumpLane n .abandoned (releaseChain t.route t.chain (setFate n .withdrawn s))) := by
    simp [withdrawFrame, hf, ht]
  rw [withdraws, loseMarks_addLost, chainFor_of_assembling hf ht, Lane.withdraw, if_pos h, hf]
  simp [bumpLane, State.modLane, setFate_eq]

/-- The withdrawal of one lane's frame changes that lane and releases the frame's chain. -/
theorem withdrawFrame_releases (r : Fin 16) (s : State) (n : Fin 4) :
    Releases ((s.lane n).chainFor r) s (withdrawFrame r s n)
      ∧ ∀ m, (withdrawFrame r s n).lane m = if m = n then (s.lane n).withdraw r else s.lane m := by
  cases h : (s.lane n).assembling r with
  | true =>
    rw [withdrawFrame_of_assembling h]
    refine ⟨(releaseChain_releases r _ n _ s).setLane n _, fun m => ?_⟩
    rw [lane_setLane_ite, releaseChain_lane, lane_setLane_ite]
    by_cases hm : m = n <;> simp only [hm, if_true, if_false]
  | false =>
    rw [withdrawFrame_of_not_assembling h, chainFor_of_not_assembling h, Lane.withdraw, h]
    refine ⟨.refl s, fun m => ?_⟩
    split
    next hm => rw [hm]; rfl
    next => rfl

/-- The withdrawal of frames, lane by lane. -/
theorem foldl_withdrawFrame_releases (r : Fin 16) {ns : List (Fin 4)} (hns : ns.Nodup) (s : State) :
    Releases (ns.flatMap fun n => (s.lane n).chainFor r) s (ns.foldl (withdrawFrame r) s)
      ∧ ∀ m, (ns.foldl (withdrawFrame r) s).lane m = if m ∈ ns then (s.lane m).withdraw r else s.lane m := by
  induction ns generalizing s with
  | nil => exact ⟨.refl s, fun m => rfl⟩
  | cons n ns ih =>
    obtain ⟨hn, hns⟩ := List.nodup_cons.mp hns
    obtain ⟨first, lane⟩ := withdrawFrame_releases r s n
    obtain ⟨others, reads⟩ := ih hns (withdrawFrame r s n)
    have chains : ns.flatMap (fun k => ((withdrawFrame r s n).lane k).chainFor r)
        = ns.flatMap (fun k => (s.lane k).chainFor r) :=
      List.flatMap_congr fun k hk => by rw [lane, if_neg fun same : k = n => hn (same ▸ hk)]
    rw [chains] at others
    refine ⟨first.trans others, fun m => ?_⟩
    rw [List.foldl_cons, reads, lane]
    by_cases hm : m = n
    · subst hm
      rw [if_neg hn, if_pos rfl, if_pos (List.mem_cons_self ..)]
    · simp only [List.mem_cons, hm, if_false, false_or]

/-! ### Discarded records (R101, step 2) -/

/-- In t every lane is as in s, but for marks it has lost. -/
def OnlyMarksLost (s t : State) : Prop := ∀ m, ∃ j, t.lane m = (s.lane m).addLost j

theorem OnlyMarksLost.trans {s t u : State} (h : OnlyMarksLost s t) (k : OnlyMarksLost t u) : OnlyMarksLost s u := by
  intro m
  obtain ⟨i, hi⟩ := h m
  obtain ⟨j, hj⟩ := k m
  exact ⟨i + j, by rw [hj, hi, addLost_addLost]⟩

/-- The discarding of the first record behind the kept ones takes it out of the queue and releases its chain. -/
theorem discardAt_releases {r : Fin 16} {keep : Nat} {s : State} {x : Record} {rest : List Record}
    (h : (s.route r).queue.drop keep = x :: rest) :
    Releases x.chain (s.setRoute r { s.route r with queue := (s.route r).queue.take keep ++ rest })
        (discardAt r keep s)
      ∧ OnlyMarksLost s (discardAt r keep s) := by
  have discards : discardAt r keep s = releaseChain r x.chain (loseMarks x.lane x.mark
      (s.setRoute r { s.route r with queue := (s.route r).queue.take keep ++ rest })) := by
    simp only [discardAt, h]
    rfl
  rw [discards, loseMarks_addLost]
  refine ⟨releaseChain_releases r _ _ _ _, fun m => ?_⟩
  rw [releaseChain_lane, lane_setLane_ite]
  split
  next hm =>
    subst hm
    exact ⟨_, rfl⟩
  next => exact ⟨0, (addLost_zero _).symm⟩

/-- The discarding of all records behind the kept ones. -/
theorem discardQueue_releases (r : Fin 16) (keep : Nat) {xs : List Record} {s : State}
    (h : (s.route r).queue.drop keep = xs) :
    Releases (xs.flatMap Record.chain) (s.setRoute r { s.route r with queue := (s.route r).queue.take keep })
        (discardQueue r keep xs.length s)
      ∧ OnlyMarksLost s (discardQueue r keep xs.length s) := by
  induction xs generalizing s with
  | nil =>
    rw [List.take_of_length_le (List.drop_eq_nil_iff.mp h), setRoute_self]
    exact ⟨.refl s, fun m => ⟨0, (addLost_zero _).symm⟩⟩
  | cons x rest ih =>
    have long : keep < (s.route r).queue.length := by
      have := congrArg List.length h
      rw [List.length_drop, List.length_cons] at this
      omega
    have kept : ((s.route r).queue.take keep).length = keep := List.length_take_of_le long.le
    obtain ⟨first, marks⟩ := discardAt_releases h
    have route : (discardAt r keep s).route r
        = { s.route r with queue := (s.route r).queue.take keep ++ rest } :=
      (first.route r).trans (route_setRoute s r _)
    obtain ⟨others, marks'⟩ := ih (s := discardAt r keep s) (by rw [route]; exact List.drop_left' kept)
    refine ⟨?_, marks.trans marks'⟩
    have queue : ({ (discardAt r keep s).route r with queue := ((discardAt r keep s).route r).queue.take keep } : Route)
        = { s.route r with queue := (s.route r).queue.take keep } := by
      rw [route]
      dsimp only
      rw [List.take_left' kept]
    rw [queue] at others
    have both := (first.setRoute r { s.route r with queue := (s.route r).queue.take keep }).trans others
    rwa [setRoute_setRoute] at both

/-! ### Entry to ABORTING (R101) -/

/-- How many records at the head of a route's queue an abort keeps: the one in progress, if any. -/
def State.kept (s : State) (r : Fin 16) : Nat := bit (inProgressOn s r)

/-- The route once an abort has entered ABORTING, discarded all but the first `keep` records and closed the open
buffer with a reason. -/
def Route.aborted (x : Route) (keep : Nat) (why : Reason) : Route :=
  { x with st := .aborting, queue := x.queue.take keep, buf := x.buf.map (Buffer.close why) }

section
variable {x : Route} {b : Buffer} (keep : Nat) (why : Reason)

theorem aborted_buf_open (hbuf : x.buf = some b) (h : b.closed = none) :
    (x.aborted keep why).buf = some { b with closed := some why, linger := none } := by
  simp [Route.aborted, hbuf, Buffer.close, h]

/-- A closed buffer keeps the reason it was closed with (R123). -/
theorem aborted_buf_closed (hbuf : x.buf = some b) (h : b.closed ≠ none) : (x.aborted keep why).buf = some b := by
  obtain ⟨first, hfirst⟩ := Option.ne_none_iff_exists'.mp h
  simp [Route.aborted, hbuf, Buffer.close, hfirst]

end

/-- The reason an abort closes an open buffer with (R101, R123). -/
def State.abortReason (s : State) (r : Fin 16) : Reason := if lingerDue s r then .linger else .abort

/-- All records behind the kept ones are discarded and the open buffer is closed. -/
theorem closeDiscarded_releases (r : Fin 16) (keep : Nat) (why : Reason) (u : State) :
    let v := closeBuffer r why (discardQueue r keep ((u.route r).queue.length - keep) u)
    Releases (((u.route r).queue.drop keep).flatMap Record.chain)
        (u.setRoute r
          { u.route r with queue := (u.route r).queue.take keep, buf := (u.route r).buf.map (Buffer.close why) }) v
      ∧ OnlyMarksLost u v := by
  obtain ⟨discarded, marks⟩ := discardQueue_releases r keep (s := u) rfl
  rw [List.length_drop] at discarded marks
  intro v
  have closes : v = (discardQueue r keep ((u.route r).queue.length - keep) u).setRoute r
      { u.route r with queue := (u.route r).queue.take keep, buf := (u.route r).buf.map (Buffer.close why) } := by
    simp only [v, closeBuffer, State.modRoute, discarded.route, route_setRoute]
  rw [closes]
  refine ⟨?_, marks⟩
  have closed := discarded.setRoute r
    { u.route r with queue := (u.route r).queue.take keep, buf := (u.route r).buf.map (Buffer.close why) }
  rwa [setRoute_setRoute] at closed

/-- The entry to ABORTING changes the route, and releases what its frames and discarded records held. -/
theorem enterAborting_releases (r : Fin 16) (s : State) :
    Releases
        (allLanes.flatMap (fun n => (s.lane n).chainFor r)
          ++ ((s.route r).queue.drop (s.kept r)).flatMap Record.chain)
        (s.setRoute r ((s.route r).aborted (s.kept r) (s.abortReason r))) (enterAborting r s)
      ∧ ∀ m, ∃ j, (enterAborting r s).lane m = ((s.lane m).withdraw r).addLost j := by
  obtain ⟨withdrawn, lanes⟩ := foldl_withdrawFrame_releases r (by decide : allLanes.Nodup)
    (s.setRoute r { s.route r with st := .aborting })
  let u := allLanes.foldl (withdrawFrame r) (s.setRoute r { s.route r with st := .aborting })
  have route : u.route r = { s.route r with st := .aborting } := (withdrawn.route r).trans (route_setRoute s r _)
  have kept : u.kept r = s.kept r := by
    rw [State.kept, inProgressOn, withdrawn.eng]
    rfl
  have enters : enterAborting r s = closeBuffer r (s.abortReason r)
      (discardQueue r (s.kept r) ((u.route r).queue.length - s.kept r) u) := by
    rw [← kept]
    rfl
  obtain ⟨discarded, marks⟩ := closeDiscarded_releases r (s.kept r) (s.abortReason r) u
  rw [← enters] at discarded marks
  rw [route] at discarded
  refine ⟨?_, fun m => ?_⟩
  · have both := (withdrawn.setRoute r _).trans discarded
    rwa [setRoute_setRoute] at both
  · obtain ⟨j, lost⟩ := marks m
    rw [lanes, if_pos (mem_allLanes m)] at lost
    exact ⟨j, lost⟩

/-! ### What the lanes and the route read after an abort -/

section
variable {l : Lane} {r : Fin 16}

theorem abandoned_addLost (l : Lane) (k : Word) : (l.addLost k).counter .abandoned = l.counter .abandoned := by
  simp [Lane.addLost, Lane.counter, laneCtrIdx]

theorem withdraw_of_not_assembling (h : l.assembling r = false) : l.withdraw r = l :=
  if_neg (by simp [h])

theorem withdraw_frame (h : l.assembling r = true) :
    (l.withdraw r).frame = l.frame.map (fun f => { f with fate := .withdrawn }) := by
  rw [Lane.withdraw, if_pos h]
  rfl

theorem withdraw_abandoned (h : l.assembling r = true) :
    (l.withdraw r).counter .abandoned = l.counter .abandoned + 1 := by
  rw [Lane.withdraw, if_pos h, abandoned_addLost, counter_count_self]
  rfl

/-- A lane from which the frame of a route was withdrawn assembles none for it. -/
theorem withdraw_assembling (l : Lane) (r : Fin 16) : (l.withdraw r).assembling r = false := by
  cases h : l.assembling r with
  | true =>
    rw [← Bool.not_eq_true, assembling_iff, withdraw_frame h]
    rintro ⟨f, t, frame, fate, -⟩
    obtain ⟨g, -, rfl⟩ := Option.map_eq_some_iff.mp frame
    cases fate
  | false => rwa [withdraw_of_not_assembling h]

/-- What a lane assembles rests on its frame alone. -/
theorem assembling_congr {m : Lane} (h : l.frame = m.frame) (r : Fin 16) : l.assembling r = m.assembling r := by
  rw [Lane.assembling, Lane.assembling, h]

end

section
variable {t : State} {r : Fin 16}

/-- With no frame in assembly for it a route holds its queue's blocks alone (R84). -/
theorem held_of_no_frames (h : ∀ n, (t.lane n).assembling r = false) :
    framesFor t r = 0 ∧ held t r = ((t.route r).queue.flatMap Record.chain).length := by
  have chains (n : Fin 4) : (t.lane n).chainFor r = [] := chainFor_of_not_assembling (h n)
  constructor
  · simp [framesFor, h]
  · simp [held, chains, List.length_flatMap]

end

/-! ### ROUTE_ABORT (R100) -/

section
variable {s : State} {r : Fin 16}

theorem abortCmd_aborting (hst : (s.route r).st = .aborting) : abortCmd r s = (s, .badState) := by
  rw [abortCmd, hst]

theorem abortCmd_nothingPosted (hst : (s.route r).st = .disabled) (h : (s.route r).rpost = (s.route r).rdone) :
    abortCmd r s = (s, .noChange) := by
  rw [abortCmd, hst]
  exact if_pos h

theorem abortCmd_noRing (hst : (s.route r).st = .disabled) (h : (s.route r).rpost ≠ (s.route r).rdone)
    (hoff : s.eng.crEnable = false) : abortCmd r s = (s, .badState) := by
  rw [abortCmd, hst]
  exact (if_neg h).trans (if_neg (by simp [hoff]))

theorem abortCmd_enters
    (h : (s.route r).st = .armed ∨ (s.route r).st = .running ∨ (s.route r).st = .stopping ∨ (s.route r).st = .halted
      ∨ (s.route r).st = .disabled ∧ (s.route r).rpost ≠ (s.route r).rdone ∧ s.eng.crEnable = true) :
    abortCmd r s = (enterAborting r s, .ok) := by
  unfold abortCmd
  rcases h with hst | hst | hst | hst | ⟨hst, posted, hon⟩
  case inr.inr.inr.inr =>
    rw [hst]
    exact (if_neg posted).trans (if_pos hon)
  all_goals rw [hst]

/-- An abort keeps one record if one is in progress on its route, and none otherwise. -/
theorem kept_eq {keep : Nat}
    (h : (∃ p, s.eng.inProg = some p ∧ p.route = r) ∧ keep = 1
      ∨ (∀ p, s.eng.inProg = some p → p.route ≠ r) ∧ keep = 0) : s.kept r = keep := by
  rcases h with ⟨inProgress, rfl⟩ | ⟨none, rfl⟩
  · rw [State.kept, (inProgressOn_iff s r).mpr inProgress]
    rfl
  · rw [State.kept, inProgressOn_false none]
    rfl

theorem abortReason_abort (h : lingerDue s r = false) : s.abortReason r = .abort := if_neg (by simp [h])

end

/-- Settles O51: the refusals by the route's state, and the abort by what its entry releases and leaves. -/
theorem abortWithdrawsAndDiscards : Obligations.AbortWithdrawsAndDiscards := by
  intro r c rest s hready hop htarget x ends
  have stays (res : Result) (h : abortCmd r s = (s, res)) : Acts .routeAbort s (ends (resultCause res)) :=
    abortRow.acts_self hready hop htarget h
  refine ⟨fun hst => stays .badState (abortCmd_aborting hst),
    fun hst none => stays .noChange (abortCmd_nothingPosted hst none),
    fun hst posted off => stays .badState (abortCmd_noRing hst posted off), fun keep hst hkeep => ?aborts⟩
  case aborts =>
    obtain ⟨releases, lanes⟩ := enterAborting_releases r s
    rw [kept_eq hkeep] at releases
    have route : (enterAborting r s).route r = x.aborted keep (s.abortReason r) :=
      (releases.route r).trans (route_setRoute s r _)
    have acts := abortRow.acts hready hop htarget (abortCmd_enters hst) (releases.ready hready)
      (congrArg Route.st route)
    have idle (n : Fin 4) : ((enterAborting r s).lane n).assembling r = false := by
      obtain ⟨j, lane⟩ := lanes n
      rw [lane]
      exact (assembling_congr rfl r).trans (withdraw_assembling _ r)
    obtain ⟨frames, blocks⟩ := held_of_no_frames idle
    rw [route] at blocks
    generalize enterAborting r s = u at *
    refine ⟨_, acts, (congrArg Route.st route :), (congrArg Route.queue route :), frames, blocks, fun n assembles => ?_,
      fun n other => ?_, ?_, fun b hbuf hopen early => ?_, fun b hbuf hclosed => ?_, fun hbuf => ?_, releases.eng,
      fun k => (congrArg (Route.counter · k) route :), (congrArg Route.rdone route :), (congrArg Route.rfetch route :),
      fun q hq => (releases.route q).trans (route_setRoute_ne s _ hq), releases.mem, rfl, releases.bus⟩
    · obtain ⟨j, lane⟩ := lanes n
      exact ⟨(congrArg Lane.frame lane :).trans (withdraw_frame assembles),
        (congrArg (Lane.counter · .abandoned) lane :).trans
          ((abandoned_addLost _ j).trans (withdraw_abandoned assembles))⟩
    · obtain ⟨j, lane⟩ := lanes n
      rw [withdraw_of_not_assembling other] at lane
      exact (congrArg Lane.frame lane :)
    · rw [List.append_assoc]
      exact releases.free
    · rw [abortReason_abort early] at route
      exact (congrArg Route.buf route :).trans (aborted_buf_open keep .abort hbuf hopen)
    · exact (congrArg Route.buf route :).trans (aborted_buf_closed keep _ hbuf hclosed)
    · exact (congrArg Route.buf route :).trans (congrArg (Option.map _) hbuf)

end Sys2Proof.Machine
end

section
/-! SUPPORT. CANCEL entries and the drain of the completion backlog (R101, R123, R124, R126, R127): the statement O59. -/

namespace Sys2Proof.Machine

/-! ### Posting one entry (R124, R126, R156) -/

/-- Word 1 of an entry, in full for an index that fits INDEX (log entry 7). -/
theorem word1_eq (c : Completion) :
    c.word1 = if c.idx < 4096 then packWord [(c.tag.toNat, 0), (c.idx, 16), (reasonCode c.reason, 28)] else c.word1 := by
  split
  next h => rw [Completion.word1, indexField_of_lt h]
  next => rfl

/-! ### CANCEL entries (R101, step 5) -/

section
variable {s : State} {r : Fin 16}

/-- A CANCEL entry may be made for an ABORTING route with a descriptor posted and no buffer, read or backlog entry. -/
theorem cancelDue_iff (s : State) (r : Fin 16) :
    cancelDue s r = true ↔ (s.route r).st = .aborting ∧ (s.route r).buf = none ∧ hasBacklog s r = false
      ∧ (s.route r).read = none ∧ (s.route r).rpost ≠ (s.route r).rdone := by
  simp [cancelDue, and_assoc]

theorem cancelOne_due (h : cancelDue s r = true) :
    cancelOne r s = makeEntry (cancelOf r (s.route r)) (fun s => s.modRoute r Route.cancelDone) s := if_pos h

theorem cancelOne_notDue (h : ¬cancelDue s r = true) : cancelOne r s = s := if_neg h

end

/-- The data held for the descriptor at RDONE is that of the first cache entry with its index (R111). -/
theorem dataAtDone_eq_some_iff (x : Route) (d : DescData) :
    x.dataAtDone = some d ↔
      ∃ c, x.cache.find? (fun c => c.idx == x.ringIdx x.rdone) = some c ∧ c.data = some d :=
  Option.bind_eq_some_iff

/-- What a CANCEL entry does to its route, field by field. -/
theorem cancelDone_eq (x : Route) :
    x.cancelDone =
      { x.count .buffers 1 with
        rdone := x.rdone + 1, cache := x.cache.eraseP (fun c => c.idx == x.ringIdx x.rdone)
        rfetch := if x.rfetch = x.rdone then x.rdone + 1 else x.rfetch } := by
  unfold Route.cancelDone
  by_cases h : x.rfetch = x.rdone
  · simp only [h]
    rfl
  · simp only [if_neg h]
    rfl

theorem cancelOf_known {x : Route} {d : DescData} (r : Fin 16) (h : x.dataAtDone = some d) :
    cancelOf r x =
      { route := r, used := 0, tag := d.tag, idx := x.ringIdx x.rdone, reason := .cancel, count := 0, pretrig := false
        fcsBad := false, seq := false, mark := false, intReq := d.intReq, tagInvalid := false } := by
  simp [cancelOf, h]

theorem cancelOf_unknown {x : Route} (r : Fin 16) (h : x.dataAtDone = none) :
    cancelOf r x =
      { route := r, used := 0, tag := 0, idx := x.ringIdx x.rdone, reason := .cancel, count := 0, pretrig := false
        fcsBad := false, seq := false, mark := false, intReq := false, tagInvalid := true } := by
  simp [cancelOf, h]

/-! ### The drain of the backlog (R127) -/

/-- The whole backlog is offered to the ring. -/
def drainAll (s : State) : State := drainLoop s.eng.backlog.length s

section
variable {s : State} {c : Completion} {rest : List Completion}

/-- The state with the entry at the backlog's head posted to the ring. -/
def postHead (c : Completion) (rest : List Completion) (s : State) : State :=
  postEntry c { s with eng := { s.eng with backlog := rest } }

theorem drainAll_stays (h : s.eng.backlog = [] ∨ ringFull s = true ∨ s.host.masterEn = false) : drainAll s = s := by
  unfold drainAll
  cases hb : s.eng.backlog with
  | nil => rfl
  | cons c rest =>
    have stuck : ¬(ringFull s = false ∧ s.host.masterEn = true) := by
      rintro ⟨room, on⟩
      simp [hb, room, on] at h
    simp only [List.length_cons, drainLoop, hb, if_neg stuck]

theorem drainAll_last (hb : s.eng.backlog = [c]) (hroom : ringFull s = false) (hon : s.host.masterEn = true) :
    drainAll s =
      post 0x62 noSource ((postHead c [] s).eng.crprod.setWidth 32) (BitVec.ofNat 32 s.eng.backlogMax)
        { postHead c [] s with eng := { (postHead c [] s).eng with backlogMax := 0 } } := by
  simp only [drainAll, hb, List.length_cons, List.length_nil, drainLoop, if_pos (And.intro hroom hon), if_true]
  rfl

theorem drainAll_more (hb : s.eng.backlog = c :: rest) (hrest : rest ≠ []) (hroom : ringFull s = false)
    (hon : s.host.masterEn = true) : drainAll s = drainAll (postHead c rest s) := by
  change drainAll s = drainLoop rest.length (postHead c rest s)
  simp only [drainAll, hb, List.length_cons, drainLoop, if_pos (And.intro hroom hon), if_neg hrest]
  rfl

end

/-- Settles O59: a CANCEL entry goes the way `makeEntry` goes, and the drain posts entry by entry. -/
theorem cancelAndDrain : Obligations.CancelAndDrain := by
  unfold Obligations.CancelAndDrain
  intro posted
  have posts (c : Completion) (s : State) : postEntry c s = posted c s.eng s := by
    rw [postEntry_eq, Completion.bytes, word1_eq]
    rfl
  refine ⟨?cancels, ?drains⟩
  case cancels =>
    intro r s hbusy y e full idx entry made
    have act : Acts (.cancelEntry r) s (cancelOne r s) := acts_engineStep (fun _ => rfl) hbusy
    have done : s.modRoute r Route.cancelDone = made := congrArg (s.setRoute r) (cancelDone_eq y)
    have room : ¬full → ringFull s = false := fun h => Bool.eq_false_iff.mpr fun hf => h ((ringFull_iff s).mp hf)
    refine ⟨fun hst hbuf hread hposted hbacklog c hc => ?due, fun h => ?notDue, dataAtDone_eq_some_iff y⟩
    case due =>
      have cancel : cancelOf r y = c := by
        rcases hc with ⟨d, known, rfl⟩ | ⟨unknown, rfl⟩
        · exact cancelOf_known r known
        · exact cancelOf_unknown r unknown
      rw [cancelOne_due ((cancelDue_iff s r).mpr ⟨hst, hbuf, hasBacklog_false hbacklog, hread, hposted⟩), cancel] at act
      refine ⟨fun hempty hroom hen => ?posted, fun hsome => ?behind, fun hempty hfull => ?first,
        fun hempty hroom hen => ?waits⟩
      case posted =>
        rw [makeEntry_room _ _ hempty (room hroom), if_pos hen, done, posts] at act
        exact act
      case behind =>
        rw [makeEntry_join _ _ (.inl hsome), done, joinBacklog_behind (s := made) _ hsome] at act
        exact act
      case first =>
        have route : c.route = r := by rw [← cancel]; rfl
        rw [makeEntry_join _ _ (.inr ((ringFull_iff s).mpr hfull)), done, joinBacklog_first (s := made) _ hempty,
          route] at act
        exact act
      case waits =>
        rw [makeEntry_room _ _ hempty (room hroom), hen] at act
        exact act
    case notDue =>
      rwa [cancelOne_notDue] at act
      intro due
      obtain ⟨hst, hbuf, hbacklog, hread, hposted⟩ := (cancelDue_iff s r).mp due
      rw [← Bool.not_eq_true, hasBacklog_iff] at hbacklog
      rcases h with h | h | h | h | h
      exacts [h hst, h hbuf, h hread, hposted h, hbacklog h]
  case drains =>
    intro s hbusy drain e full
    have act : Acts .backlogDrain s (drainAll s) :=
      acts_engineStep (f := fun s => drainLoop s.eng.backlog.length s) (fun _ => rfl) hbusy
    refine ⟨act, fun h => ?stays, fun c rest hb hroom hon => ?posts⟩
    case stays =>
      have stays : drainAll s = s := drainAll_stays (by rwa [ringFull_iff])
      rw [stays] at act
      exact ⟨stays, act⟩
    case posts =>
      have free : ringFull s = false := Bool.eq_false_iff.mpr fun hf => hroom ((ringFull_iff s).mp hf)
      have head : postHead c rest s = posted c { e with backlog := rest } s := posts c _
      intro t
      refine ⟨fun more => ?_, fun last => ?_⟩
      · have drains : drainAll s = drainAll t := (drainAll_more hb more free hon).trans (congrArg drainAll head)
        rw [drains] at act
        exact ⟨drains, act⟩
      · subst last
        rw [drainAll_last hb free hon, head] at act
        exact act

end Sys2Proof.Machine
end

section
/-! SUPPORT. The filter of an input line and the actions of its active edge, with its marks and route masks (R96, R105,
R131, R139, R140, R142): the statement O35. -/

namespace Sys2Proof.Machine

/-! ### The filter of a line (R131) -/

section
variable {n : Fin 4} {level : Bool} {s : State}

/-- A transition is active in the directions that EDGE names (R131). -/
theorem selects_iff (g : Trig) (rising : Bool) :
    g.selects rising = true ↔ g.edge = 2 ∨ g.edge = 0 ∧ rising = true ∨ g.edge = 1 ∧ rising = false := by
  simp only [Trig.selects, Bool.or_eq_true, Bool.and_eq_true, beq_iff_eq, Bool.not_eq_true', or_assoc]

theorem filter_accepts_iff (f : Filter) (level : Bool) :
    f.accepts level = true ↔ f.level = some (!level) ∧ f.last ≠ some (!level) := by
  simp only [Filter.accepts, Bool.and_eq_true, beq_iff_eq, bne_iff_ne]

/-- The filter of a line runs while the line is an input and no boot load is in progress (R131, R172). -/
theorem filterRuns_iff (n : Fin 4) (s : State) :
    filterRuns n s = true ↔ s.ctl.loading = false ∧ (s.trig n).out = false := by
  simp only [filterRuns, Bool.and_eq_true, Bool.not_eq_true']

/-- The line with its filter at a level that it has just seen. -/
def Trig.taking (g : Trig) (level : Bool) : Trig := { g with filter := g.filter.take level }

theorem sampleTrigger_idle (h : ¬filterRuns n s = true) : sampleTrigger n level s = s := if_neg h

theorem sampleTrigger_first (hruns : filterRuns n s = true) (h : (s.trig n).filter.level = none) :
    sampleTrigger n level s = s.setTrig n ((s.trig n).taking level) :=
  (if_pos hruns).trans (if_pos h)

theorem sampleTrigger_accepted (hruns : filterRuns n s = true) (h : (s.trig n).filter.accepts level = true) :
    sampleTrigger n level s = acceptTrigger n level s := by
  have known : (s.trig n).filter.level ≠ none := by
    rw [((filter_accepts_iff _ _).mp h).1]
    exact Option.some_ne_none _
  exact (if_pos hruns).trans ((if_neg known).trans (if_pos h))

theorem sampleTrigger_noTransition (h : (s.trig n).filter.level ≠ none)
    (h' : ¬(s.trig n).filter.accepts level = true) : sampleTrigger n level s = s := by
  unfold sampleTrigger
  rw [if_neg h, if_neg h', ite_self]

theorem acceptTrigger_acts (hsel : (s.trig n).selects level = true) (hbusy : s.ctl.resetBusy = false) :
    acceptTrigger n level s = actTrigger n level (s.setTrig n ((s.trig n).taking level)) :=
  if_pos (by rw [hsel, hbusy]; rfl)

theorem acceptTrigger_silent (h : ¬(s.trig n).selects level = true ∨ s.ctl.resetBusy = true) :
    acceptTrigger n level s = s.setTrig n ((s.trig n).taking level) := by
  refine if_neg fun both => ?_
  rw [Bool.and_eq_true, Bool.not_eq_true'] at both
  obtain ⟨sel, idle⟩ := both
  exact h.elim (· sel) fun busy => Bool.false_ne_true (idle.symm.trans busy)

end

/-! ### The mark mask (R140) -/

/-- The lane once the edge of line n at a time has met the line's mark mask: its cell takes the time if the mask names
the lane, the lane is enabled and the cell is empty. -/
def Trig.marking (g : Trig) (n : Fin 4) (time : DWord) (k : Fin 4) (l : Lane) : Lane :=
  if g.marksLane k = true ∧ l.st ≠ .off ∧ l.marks[n.val] = none then
    { l with marks := l.marks.set n.val (some time) }
  else l

theorem marking_eq (g : Trig) (n : Fin 4) (time : DWord) (k : Fin 4) (l : Lane) :
    g.marking n time k l = if g.marksLane k then l.markBy n time else l := by
  unfold Trig.marking Lane.markBy
  by_cases hoff : l.st = .off
  · simp [hoff]
  · cases hm : l.marks[n.val] <;> cases g.marksLane k <;> simp [hoff]

/-- The masks of several lanes are applied to each of them alone. -/
theorem foldl_marks (n : Fin 4) {ks : List (Fin 4)} (hks : ks.Nodup) (s : State) :
    ks.foldl (fun s k => if (s.trig n).marksLane k then s.modLane k (fun l => l.markBy n s.tb.ref) else s) s
      = { s with
          lanes := Vector.ofFn fun k : Fin 4 =>
            if k ∈ ks then (s.trig n).marking n s.tb.ref k (s.lane k) else s.lane k } := by
  induction ks generalizing s with
  | nil =>
    have lanes : (Vector.ofFn fun k : Fin 4 => s.lane k) = s.lanes := Vector.ext fun i hi => by simp [State.lane]
    simp [lanes]
  | cons k ks ih =>
    obtain ⟨hk, hks⟩ := List.nodup_cons.mp hks
    have first : (if (s.trig n).marksLane k then s.modLane k (fun l => l.markBy n s.tb.ref) else s)
        = s.setLane k ((s.trig n).marking n s.tb.ref k (s.lane k)) := by
      rw [marking_eq]
      split
      · rfl
      · rw [setLane_self]
    rw [List.foldl_cons, first, ih hks]
    have lanes (m : Fin 4) : (if m ∈ ks then
          (s.trig n).marking n s.tb.ref m
            ((s.setLane k ((s.trig n).marking n s.tb.ref k (s.lane k))).lane m)
        else (s.setLane k ((s.trig n).marking n s.tb.ref k (s.lane k))).lane m)
        = if m ∈ k :: ks then (s.trig n).marking n s.tb.ref m (s.lane m) else s.lane m := by
      rw [lane_setLane_ite]
      by_cases hm : m = k
      · subst hm
        simp only [if_neg hk, if_true, List.mem_cons_self]
      · simp only [hm, if_false, List.mem_cons, false_or]
    change { s with lanes := Vector.ofFn _ } = _
    exact congrArg (fun f => { s with lanes := Vector.ofFn f }) (funext lanes)

theorem applyMarks_eq (n : Fin 4) (s : State) :
    applyMarks n s =
      { s with lanes := Vector.ofFn fun k : Fin 4 => (s.trig n).marking n s.tb.ref k (s.lane k) } := by
  rw [applyMarks, foldl_marks n (by decide)]
  simp only [mem_allLanes, if_true]

/-! ### The route masks (R95, R96, R105) -/

section
variable {n : Fin 4} {g : Trig} {r : Fin 16} {s : State}

theorem triggerRoute_starts (hst : (s.route r).st = .armed) (h : g.starts r = true) (hq : s.ctl.quiesced = false) :
    triggerRoute n g s r = startRoute r (some n) s := by
  rw [triggerRoute, hst]
  exact if_pos (by rw [h, hq]; rfl)

theorem triggerRoute_stops (hst : (s.route r).st = .running) (h : g.stops r = true) :
    triggerRoute n g s r =
      { s.setRoute r { s.route r with st := .stopping } with
        ev := (post 0x54 (srcIdx r) (BitVec.ofNat 32 n.val) (BitVec.ofNat 32 (s.route r).queue.length) s).ev } := by
  rw [triggerRoute, hst]
  exact if_pos h

theorem triggerRoute_stays (h : ¬((s.route r).st = .armed ∧ g.starts r = true ∧ s.ctl.quiesced = false))
    (h' : ¬((s.route r).st = .running ∧ g.stops r = true)) : triggerRoute n g s r = s := by
  unfold triggerRoute
  split
  next hst =>
    refine if_neg fun both => h ⟨hst, ?_⟩
    rwa [Bool.and_eq_true, Bool.not_eq_true'] at both
  next hst => exact if_neg fun stops => h' ⟨hst, stops⟩
  next => rfl

/-- The route masks are read from TGARG alone. -/
theorem triggerRoute_congr {h : Trig} (e : g.arg = h.arg) (s : State) (r : Fin 16) :
    triggerRoute n g s r = triggerRoute n h s r := by
  have starts : g.starts r = h.starts r := by rw [Trig.starts, Trig.starts, e]
  have stops : g.stops r = h.stops r := by rw [Trig.stops, Trig.stops, e]
  unfold triggerRoute
  rw [starts, stops]

/-- The pulses of a route's start leave TGARG of every line as it is. -/
theorem startRoute_arg (r : Fin 16) (line : Option (Fin 4)) (s : State) (m : Fin 4) :
    ((startRoute r line s).trig m).arg = (s.trig m).arg := by
  rw [startRoute_eq]
  change Trig.arg (mapVec _ s.trigs)[m.val] = Trig.arg s.trigs[m.val]
  rw [getElem_mapVec]
  split <;> rfl

/-- The masks leave TGARG of every line as it is. -/
theorem triggerRoute_arg (n : Fin 4) (g : Trig) (s : State) (r : Fin 16) (m : Fin 4) :
    ((triggerRoute n g s r).trig m).arg = (s.trig m).arg := by
  unfold triggerRoute
  split
  next =>
    split
    next => exact startRoute_arg r (some n) s m
    next => rfl
  next => split <;> rfl
  next => rfl

theorem foldl_triggerRoute {rs : List (Fin 16)} (h : g.arg = (s.trig n).arg) :
    rs.foldl (fun s r => triggerRoute n (s.trig n) s r) s = rs.foldl (fun s r => triggerRoute n g s r) s := by
  induction rs generalizing s with
  | nil => rfl
  | cons r rs ih =>
    rw [List.foldl_cons, List.foldl_cons, triggerRoute_congr h.symm]
    exact ih (h.trans (triggerRoute_arg n g s r n).symm)

end

/-! ### The actions of an active edge (R139) -/

/-- The line with an active edge latched at a time. -/
def Trig.edgeAt (g : Trig) (time : DWord) : Trig :=
  { g with time := time, edges := g.edges + 1, flag := true, flagNow := true }

/-- The state once an active edge has been latched on line n, told, and marked on the lanes. -/
def edgeMarked (n : Fin 4) (rising : Bool) (s : State) : State :=
  let g := s.trig n
  { s with
    trigs := s.trigs.set n.val (g.edgeAt s.tb.ref)
    lanes := Vector.ofFn fun k : Fin 4 => g.marking n s.tb.ref k (s.lane k)
    ev :=
      if g.ee then
        (post 0x74 (srcIdx n) (packWord [(bit (!rising), 0), ((g.edges + 1).toNat, 16)]) (loWord s.tb.ref) s).ev
      else s.ev }

theorem actTrigger_eq (n : Fin 4) (rising : Bool) (s : State) :
    actTrigger n rising s
      = allRoutes.foldl (fun u r => triggerRoute n (s.trig n) u r) (edgeMarked n rising s) := by
  let latched := s.setTrig n ((s.trig n).edgeAt s.tb.ref)
  let told : State := { latched with ev := (edgeMarked n rising s).ev }
  have line : latched.trig n = (s.trig n).edgeAt s.tb.ref := trig_setTrig s n _
  have acts : actTrigger n rising s = applyRoutes n (applyMarks n told) := by
    have tells : (if (latched.trig n).ee then
          post 0x74 (srcIdx n) (packWord [(bit (!rising), 0), ((latched.trig n).edges.toNat, 16)])
            (loWord (latched.trig n).time) latched
        else latched) = told := by
      rw [line]
      change (if (s.trig n).ee = true then _ else latched)
        = { latched with ev := if (s.trig n).ee = true then _ else s.ev }
      split <;> rfl
    rw [← tells]
    rfl
  have marked : applyMarks n told = edgeMarked n rising s := by
    rw [applyMarks_eq, show told.trig n = _ from line]
    rfl
  have arg : (s.trig n).arg = ((edgeMarked n rising s).trig n).arg := (congrArg Trig.arg line).symm
  rw [acts, marked]
  exact foldl_triggerRoute arg

/-- With the edge's level taken first. -/
theorem edgeMarked_taking (n : Fin 4) (rising : Bool) (s : State) :
    edgeMarked n rising (s.setTrig n ((s.trig n).taking rising))
      = { edgeMarked n rising s with
          trigs := s.trigs.set n.val (((s.trig n).taking rising).edgeAt s.tb.ref) } := by
  simp only [edgeMarked, trig_setTrig]
  simp only [State.setTrig, Vector.set_set]
  rfl

/-- Settles O35: the filter by what it has seen, the edge by its actions, and the masks by the route's state. -/
theorem triggerEdgeActs : Obligations.TriggerEdgeActs := by
  refine ⟨?filter, ?masks⟩
  case filter =>
    intro n rising s g taken both runs accepts active
    have acts : both (sampleTrigger n rising s) := ⟨acts_inTurn (fun _ => rfl) s, acts_inTurn (fun _ => rfl) s⟩
    have runs' : runs → filterRuns n s = true := (filterRuns_iff n s).mpr
    have accepts' : accepts → g.filter.accepts rising = true := (filter_accepts_iff _ _).mpr
    refine ⟨fun hruns haccepts hactive hbusy => ?edge, fun hruns h => ?moves, fun h => ?nothing⟩
    case edge =>
      intro t1
      rw [sampleTrigger_accepted (runs' hruns) (accepts' haccepts),
        acceptTrigger_acts ((selects_iff _ _).mpr hactive) hbusy, actTrigger_eq, edgeMarked_taking, trig_setTrig] at acts
      have masks : (fun u r => triggerRoute n (g.taking rising) u r) = fun u r => triggerRoute n g u r :=
        funext fun u => funext fun r => triggerRoute_congr rfl u r
      rw [masks] at acts
      exact acts
    case moves =>
      rcases h with first | ⟨haccepts, silent⟩
      · rwa [sampleTrigger_first (runs' hruns) first] at acts
      · rw [sampleTrigger_accepted (runs' hruns) (accepts' haccepts),
          acceptTrigger_silent (silent.imp_left (mt (selects_iff _ _).mp))] at acts
        exact acts
    case nothing =>
      rcases h with idle | same | unsettled
      · rwa [sampleTrigger_idle fun h => idle ((filterRuns_iff n s).mp h)] at acts
      · have known : g.filter.level ≠ none := same ▸ Option.some_ne_none _
        refine sampleTrigger_noTransition known (fun h => ?_) ▸ acts
        have level : rising = !rising := Option.some.inj (same.symm.trans ((filter_accepts_iff _ _).mp h).1)
        exact Bool.not_ne_self rising level.symm
      · obtain ⟨level, last⟩ := unsettled
        have known : g.filter.level ≠ none := level ▸ Option.some_ne_none _
        exact sampleTrigger_noTransition known (fun h => ((filter_accepts_iff _ _).mp h).2 last) ▸ acts
  case masks =>
    intro n g r s x t
    refine ⟨fun hst starts hq => ?_, fun hst stops => triggerRoute_stops hst stops, fun h h' => triggerRoute_stays h h'⟩
    have started : t = _ := (triggerRoute_starts hst starts hq).trans (startRoute_eq r (some n) s)
    rw [hst] at started
    exact started

end Sys2Proof.Machine
end

section
/-! SUPPORT. What leaves the descriptor caches, the reads, the ownership of buffers and the backlog as they are (R111,
R112, R116, R127): all but a few steps of the engine, ROUTE_RESUME and the resets. One lemma per operation, in the order
of the model. -/

namespace Sys2Proof.Machine

/-- What the bounds of a descriptor cache and of the backlog rest on in a route (R111, R116): how many entries its cache
holds, how many its read will bring and whether that is stale, and whether it owns a buffer. -/
def Route.stock (t : Route) : Nat × Option (Nat × Bool) × Bool :=
  (t.cache.length, t.read.map fun q => (q.n, q.stale), t.buf.isSome)

/-- The stock of each route and the backlog are the same in t as in s. -/
@[simp] abbrev KeepsStock (t s : State) : Prop :=
  mapVec Route.stock t.routes = mapVec Route.stock s.routes ∧ t.eng.backlog = s.eng.backlog

theorem KeepsStock.refl (s : State) : KeepsStock s s := ⟨rfl, rfl⟩

theorem KeepsStock.trans {u t s : State} (h : KeepsStock u t) (k : KeepsStock t s) : KeepsStock u s :=
  ⟨h.1.trans k.1, h.2.trans k.2⟩

/-- A row of operations that each keep the stock keeps it. -/
theorem foldl_keepsStock {α : Type} {f : State → α → State} (h : ∀ s a, KeepsStock (f s a) s) (l : List α)
    (s : State) : KeepsStock (l.foldl f s) s := by
  induction l generalizing s with
  | nil => exact .refl s
  | cons a l ih => exact (ih (f s a)).trans (h s a)

/-! ### One route -/

/-- Routes have the same stock when cache, read and buffer agree so far. -/
@[simp] theorem stock_eq_iff {x y : Route} :
    x.stock = y.stock ↔ x.cache.length = y.cache.length
      ∧ (x.read.map fun q => (q.n, q.stale)) = (y.read.map fun q => (q.n, q.stale))
      ∧ x.buf.isSome = y.buf.isSome := by
  simp [Route.stock]

@[simp] theorem setRoute_stock {s : State} {r : Fin 16} {x : Route} (h : x.stock = (s.route r).stock) :
    mapVec Route.stock (s.setRoute r x).routes = mapVec Route.stock s.routes := mapVec_set_eq h

@[simp] theorem modRoute_stock {s : State} {r : Fin 16} {f : Route → Route}
    (h : (f (s.route r)).stock = (s.route r).stock) :
    mapVec Route.stock (s.modRoute r f).routes = mapVec Route.stock s.routes := mapVec_set_eq h

@[simp] theorem bumpRoute_stock (r : Fin 16) (c : RouteCtr) (s : State) :
    mapVec Route.stock (bumpRoute r c s).routes = mapVec Route.stock s.routes := modRoute_stock rfl

/-! ### Release and queues -/

@[simp] theorem shedTest_keepsStock (b : Bool) (s : State) : KeepsStock (shedTest b s) s := by
  unfold shedTest; split
  · cases b <;> simp
  · simp

@[simp] theorem releaseChain_keepsStock (r : Fin 16) (c : List Nat) (s : State) :
    KeepsStock (releaseChain r c s) s := by
  simp [releaseChain]

@[simp] theorem loseMarks_keepsStock (n : Fin 4) (m : Bool) (s : State) : KeepsStock (loseMarks n m s) s := by
  cases m <;> simp [loseMarks]

@[simp] theorem dropHead_keepsStock (r : Fin 16) (lost : Bool) (s : State) : KeepsStock (dropHead r lost s) s := by
  unfold dropHead; split <;> simp

/-! ### Route moves -/

@[simp] theorem enterRunning_keepsStock (r : Fin 16) (s : State) : KeepsStock (enterRunning r s) s := by
  simp [enterRunning]

@[simp] theorem startRoute_keepsStock (r : Fin 16) (line : Option (Fin 4)) (s : State) :
    KeepsStock (startRoute r line s) s := by
  simp [startRoute]

@[simp] theorem enterStopping_keepsStock (r : Fin 16) (s : State) : KeepsStock (enterStopping r s) s := by
  simp [enterStopping]

@[simp] theorem triggerRoute_keepsStock (n : Fin 4) (t : Trig) (s : State) (r : Fin 16) :
    KeepsStock (triggerRoute n t s r) s := by
  unfold triggerRoute
  split
  · split <;> simp
  · split <;> simp
  · simp

/-! ### Classification and admission -/

@[simp] theorem storeBody_keepsStock (n : Fin 4) (k : Nat) (bytes : List Byte) (s : State) :
    KeepsStock (storeBody n k bytes s) s := by
  unfold storeBody
  split
  · split <;> simp
  · simp

@[simp] theorem dropFrame_keepsStock (n : Fin 4) (s : State) : KeepsStock (dropFrame n s) s := by
  unfold dropFrame; split <;> simp

@[simp] theorem refuse_keepsStock (n : Fin 4) (r : Fin 16) (c : RouteCtr) (s : State) :
    KeepsStock (refuse n r c s) s := by
  simp [refuse]

@[simp] theorem evictOldest_keepsStock (r : Fin 16) (s : State) : KeepsStock (evictOldest r s) s := by
  unfold evictOldest; split <;> simp

@[simp] theorem evictWhile_keepsStock (more : State → Bool) (r : Fin 16) (k : Nat) (s : State) :
    KeepsStock (evictWhile more r k s) s := by
  induction k generalizing s with
  | zero => exact .refl s
  | succ k ih =>
    unfold evictWhile
    split
    · exact (ih _).trans (evictOldest_keepsStock r s)
    · exact .refl s

@[simp] theorem quotaEvict_keepsStock (r : Fin 16) (B : Nat) (s : State) : KeepsStock (quotaEvict r B s) s := by
  unfold quotaEvict; split <;> simp

@[simp] theorem retainEvict_keepsStock (r : Fin 16) (s : State) : KeepsStock (retainEvict r s) s := by
  unfold retainEvict; split <;> simp

@[simp] theorem refuseQuota_keepsStock (n : Fin 4) (r : Fin 16) (B : Nat) (s : State) :
    KeepsStock (refuseQuota n r B s) s := by
  unfold refuseQuota; split <;> simp

@[simp] theorem refuseThreshold_keepsStock (n : Fin 4) (r : Fin 16) (B : Nat) (s : State) :
    KeepsStock (refuseThreshold n r B s) s := by
  unfold refuseThreshold
  split
  · split <;> simp
  · split <;> simp

@[simp] theorem countBudget_keepsStock (n : Fin 4) (r : Fin 16) (s : State) : KeepsStock (countBudget n r s) s := by
  unfold countBudget
  dsimp only
  split
  · split <;> simp
  · simp

@[simp] theorem takeBlocks_keepsStock (B : Nat) (s : State) : KeepsStock (takeBlocks B s) s := .refl s

@[simp] theorem reserve_keepsStock (n : Fin 4) (t : Ticket) (B : Nat) (s : State) : KeepsStock (reserve n t B s) s := by
  have counted (u : State) :
      mapVec Route.stock (u.modRoute t.route (fun x => ({ x with quotaEp := false } : Route).count .admitted 1)).routes
        = mapVec Route.stock u.routes := modRoute_stock rfl
  unfold reserve
  cases (s.route t.route).high <;> simp [counted]

@[simp] theorem admitFrame_keepsStock (n : Fin 4) (L : Nat) (t : Ticket) (s : State) :
    KeepsStock (admitFrame n L t s) s := by
  unfold admitFrame
  dsimp only
  generalize blockNeed _ = B
  cases gateRefusal s t.route with
  | some c => simp
  | none =>
    dsimp only
    split
    · simp
    · split <;> simp

@[simp] theorem setEntry_keepsStock (s : State) (i : Fin 32) (e : MatchEntry) : KeepsStock (s.setEntry i e) s := .refl s

@[simp] theorem classify_keepsStock (n : Fin 4) (L : Nat) (head : List Byte) (s : State) :
    KeepsStock (classify n L head s) s := by
  unfold classify
  dsimp only
  split
  · split <;> simp
  · split <;> simp

@[simp] theorem seqCheck_keepsStock (n : Fin 4) (t : Ticket) (v : FcsVerdict) (s : State) :
    KeepsStock (seqCheck n t v s).1 s := by
  unfold seqCheck
  dsimp only
  split
  · simp
  · split <;> simp

@[simp] theorem discardFrame_keepsStock (n : Fin 4) (f : FrameCtx) (t : Ticket) (c : RouteCtr) (s : State) :
    KeepsStock (discardFrame n f t c s) s := by
  simp [discardFrame, closeFrame]

@[simp] theorem commitFrame_keepsStock (n : Fin 4) (f : FrameCtx) (t : Ticket) (L : Nat) (v : FcsVerdict)
    (q : SeqVerdict) (s : State) : KeepsStock (commitFrame n f t L v q s) s := by
  simp [commitFrame, closeFrame]

@[simp] theorem finalize_keepsStock (n : Fin 4) (f : FrameCtx) (t : Ticket) (L : Nat) (v : FcsVerdict) (s : State) :
    KeepsStock (finalize n f t L v s) s := by
  unfold finalize
  dsimp only
  split
  · simp
  · split <;> simp

/-! ### The synchronizer -/

@[simp] theorem frameStart_keepsStock (n : Fin 4) (coast : Bool) (s : State) : KeepsStock (frameStart n coast s) s := by
  simp [frameStart]

@[simp] theorem acquireLock_keepsStock (n : Fin 4) (s : State) : KeepsStock (acquireLock n s) s := by
  simp [acquireLock]

@[simp] theorem loseLock_keepsStock (n : Fin 4) (s : State) : KeepsStock (loseLock n s) s := by
  simp [loseLock]

@[simp] theorem syncFoundAt_keepsStock (n : Fin 4) (s : State) : KeepsStock (syncFoundAt n s) s := by
  unfold syncFoundAt
  dsimp only
  split
  · split
    · split <;> simp
    · simp
  · simp

@[simp] theorem syncPositionAt_keepsStock (n : Fin 4) (s : State) : KeepsStock (syncPositionAt n s) s := by
  unfold syncPositionAt
  dsimp only
  split
  · split
    · split
      · split <;> simp
      · simp
    · split
      · simp
      · split <;> simp
    · split
      · simp
      · split <;> simp
    · simp
  · simp

@[simp] theorem lengthError_keepsStock (n : Fin 4) (L : Int) (s : State) : KeepsStock (lengthError n L s) s := by
  unfold lengthError
  dsimp only
  split <;> simp

@[simp] theorem headerKnown_keepsStock (n : Fin 4) (L : Nat) (head : List Byte) (s : State) :
    KeepsStock (headerKnown n L head s) s := by
  unfold headerKnown
  dsimp only
  split <;> simp

@[simp] theorem headerExtentAt_keepsStock (n : Fin 4) (s : State) : KeepsStock (headerExtentAt n s) s := by
  unfold headerExtentAt
  dsimp only
  split
  · split
    · split
      · split <;> simp
      · simp
    · simp
  · simp

@[simp] theorem frameEndAt_keepsStock (n : Fin 4) (s : State) : KeepsStock (frameEndAt n s) s := by
  unfold frameEndAt
  dsimp only
  split
  · split
    · rename_i f _ _
      cases f.fate <;> simp
    · simp
  · simp

@[simp] theorem flipAt_keepsStock (n : Fin 4) (s : State) : KeepsStock (flipAt n s) s := by
  unfold flipAt; split <;> simp

@[simp] theorem settleSync_keepsStock (n : Fin 4) (s : State) : KeepsStock (settleSync n s) s := by
  simp [settleSync]

@[simp] theorem settleLane_keepsStock (n : Fin 4) (s : State) : KeepsStock (settleLane n s) s := by
  simp [settleLane]

@[simp] theorem flipRow_keepsStock (n : Fin 4) (s : State) : KeepsStock (flipRow n s) s := by
  unfold flipRow; split <;> simp

@[simp] theorem bodyByte_keepsStock (n : Fin 4) (b : Byte) (s : State) : KeepsStock (bodyByte n b s) s := by
  unfold bodyByte
  dsimp only
  split <;> simp

@[simp] theorem phaseBit_keepsStock (n : Fin 4) (b : Bool) (s : State) : KeepsStock (phaseBit n b s) s := by
  unfold phaseBit
  dsimp only
  split
  · simp
  · split
    · simp
    · split <;> simp

@[simp] theorem handBit_keepsStock (n : Fin 4) (b : Bool) (s : State) : KeepsStock (handBit n b s) s := by
  unfold handBit
  dsimp only
  split <;> simp

@[simp] theorem abandon_keepsStock (n : Fin 4) (s : State) : KeepsStock (abandon n s) s := by
  unfold abandon
  dsimp only
  split
  · simp
  · split <;> simp

/-! ### The lane receivers -/

@[simp] theorem disableLane_keepsStock (n : Fin 4) (s : State) : KeepsStock (disableLane n s) s := by
  simp [disableLane]

@[simp] theorem enableLane_keepsStock (n : Fin 4) (report : Bool) (s : State) :
    KeepsStock (enableLane n report s).1 s := by
  unfold enableLane
  dsimp only
  split
  · simp
  · cases report <;> simp

@[simp] theorem refuseWrite_keepsStock (report : Bool) (source : Byte) (offset : Nat) (data : Word) (s : State) :
    KeepsStock (refuseWrite report source offset data s) s := by
  cases report <;> simp [refuseWrite]

@[simp] theorem writeLaneReg_keepsStock (n : Fin 4) (reg : LaneReg) (data : Word) (report : Bool) (s : State) :
    KeepsStock (writeLaneReg n reg data report s).1 s := by
  unfold writeLaneReg
  dsimp only
  split
  · split
    · split <;> simp
    · split <;> split <;> simp
  · split <;> simp

@[simp] theorem writeLinjc_keepsStock (n : Fin 4) (data : Word) (s : State) : KeepsStock (writeLinjc n data s) s := by
  unfold writeLinjc
  dsimp only
  split <;> simp

@[simp] theorem writeLinj_keepsStock (n : Fin 4) (data : Word) (s : State) : KeepsStock (writeLinj n data s) s := by
  unfold writeLinj
  dsimp only
  split
  · split <;> simp
  · simp

@[simp] theorem clockLostAt_keepsStock (n : Fin 4) (s : State) : KeepsStock (clockLostAt n s) s := by
  unfold clockLostAt; split <;> simp

@[simp] theorem clockRestoredAt_keepsStock (n : Fin 4) (s : State) : KeepsStock (clockRestoredAt n s) s := by
  unfold clockRestoredAt; split <;> simp

@[simp] theorem clockEdge_keepsStock (n : Fin 4) (rising level : Bool) (s : State) :
    KeepsStock (clockEdge n rising level s) s := by
  unfold clockEdge
  dsimp only
  split
  · split <;> simp
  · simp

@[simp] theorem feedAt_keepsStock (n : Fin 4) (s : State) : KeepsStock (feedAt n s) s := by
  unfold feedAt
  dsimp only
  split
  · split <;> simp
  · simp

/-! ### The timebase and the trigger port -/

@[simp] theorem armedLoad_keepsStock (s : State) : KeepsStock (armedLoad s) s := by
  unfold armedLoad; split <;> simp [loadEpoch]

@[simp] theorem actSync_keepsStock (s : State) : KeepsStock (actSync s) s := by
  unfold actSync
  dsimp only
  split <;> split <;> simp

@[simp] theorem sampleSync_keepsStock (level : Bool) (s : State) : KeepsStock (sampleSync level s) s := by
  unfold sampleSync acceptSync
  dsimp only
  split
  · simp
  · split
    · simp
    · split
      · split <;> simp
      · simp

@[simp] theorem syncMissingAt_keepsStock (s : State) : KeepsStock (syncMissingAt s) s := by
  unfold syncMissingAt; split <;> simp

@[simp] theorem periodicTickAt_keepsStock (s : State) : KeepsStock (periodicTickAt s) s := by
  unfold periodicTickAt; split <;> simp

@[simp] theorem applyMarks_keepsStock (n : Fin 4) (s : State) : KeepsStock (applyMarks n s) s :=
  foldl_keepsStock (fun s k => by split <;> simp) _ s

@[simp] theorem applyRoutes_keepsStock (n : Fin 4) (s : State) : KeepsStock (applyRoutes n s) s := by
  unfold applyRoutes
  exact foldl_keepsStock (f := fun s r => triggerRoute n (s.trig n) s r)
    (fun s r => triggerRoute_keepsStock n (s.trig n) s r) _ s

@[simp] theorem actTrigger_keepsStock (n : Fin 4) (rising : Bool) (s : State) :
    KeepsStock (actTrigger n rising s) s := by
  unfold actTrigger
  dsimp only
  split <;> simp

@[simp] theorem sampleTrigger_keepsStock (n : Fin 4) (level : Bool) (s : State) :
    KeepsStock (sampleTrigger n level s) s := by
  unfold sampleTrigger acceptTrigger
  dsimp only
  split
  · split
    · simp
    · split
      · split <;> simp
      · simp
  · simp

@[simp] theorem writeTrig_keepsStock (n : Fin 4) (reg : TrigReg) (data : Word) (s : State) :
    KeepsStock (writeTrig n reg data s) s := by
  cases reg with
  | tgcfg =>
    simp only [writeTrig]
    split <;> simp [clearLineMarks]
  | tgarg => simp [writeTrig]

@[simp] theorem pulseEndAt_keepsStock (n : Fin 4) (s : State) : KeepsStock (pulseEndAt n s) s := by
  unfold pulseEndAt
  dsimp only
  split <;> simp

/-! ### Resets -/

@[simp] theorem resetDoneAt_keepsStock (s : State) : KeepsStock (resetDoneAt s) s := by
  unfold resetDoneAt; split <;> simp

/-! ### Host accesses -/

@[simp] theorem hostRead_keepsStock (o : Nat) (s : State) : KeepsStock (hostRead o s) s := by
  unfold hostRead
  dsimp only
  split <;> simp

/-- A route's configuration words are not its stock. -/
@[simp] theorem routeWithReg_stock (t : Route) (reg : RouteReg) (v : Word) : (t.withReg reg v).stock = t.stock := by
  cases reg <;> rfl

@[simp] theorem writeRouteReg_keepsStock (r : Fin 16) (reg : RouteReg) (data : Word) (report : Bool) (s : State) :
    KeepsStock (writeRouteReg r reg data report s).1 s := by
  unfold writeRouteReg
  dsimp only
  split
  · exact ⟨setRoute_stock (routeWithReg_stock _ reg _), rfl⟩
  · exact refuseWrite_keepsStock report _ _ data s

@[simp] theorem writeWindow_keepsStock (w : Fin 4) (reg : WindowReg) (data : Word) (report : Bool) (s : State) :
    KeepsStock (writeWindow w reg data report s).1 s := by
  unfold writeWindow; split <;> simp

@[simp] theorem writeCrbase_keepsStock (h : BaseHalf) (data : Word) (report : Bool) (s : State) :
    KeepsStock (writeCrbase h data report s).1 s := by
  cases h <;> (unfold writeCrbase; split <;> simp)

@[simp] theorem writeCrcfg_keepsStock (data : Word) (report : Bool) (s : State) :
    KeepsStock (writeCrcfg data report s).1 s := by
  unfold writeCrcfg
  dsimp only
  split
  · split
    · split <;> simp
    · simp
  · simp

@[simp] theorem writeRpost_keepsStock (r : Fin 16) (data : Word) (s : State) : KeepsStock (writeRpost r data s) s := by
  unfold writeRpost
  dsimp only
  split <;> simp

@[simp] theorem writeCrcons_keepsStock (data : Word) (s : State) : KeepsStock (writeCrcons data s) s := by
  unfold writeCrcons
  dsimp only
  split
  · split <;> simp
  · simp

@[simp] theorem writeIntstat_keepsStock (data : Word) (s : State) : KeepsStock (writeIntstat data s) s := by
  unfold writeIntstat
  dsimp only
  split <;> simp

@[simp] theorem writeCmpmod_keepsStock (data : Word) (s : State) : KeepsStock (writeCmpmod data s) s := by
  simp [writeCmpmod]

@[simp] theorem writeBshed_keepsStock (data : Word) (report : Bool) (s : State) :
    KeepsStock (writeBshed data report s) s := by
  simp [writeBshed]

@[simp] theorem offerCmd_keepsStock (c : Cmd) (s : State) : KeepsStock (offerCmd c s) s := by
  unfold offerCmd; split <;> simp

@[simp] theorem refuseAccess_keepsStock (offset : BitVec 12) (write : Bool) (bytes : BitVec 4) (data : Word)
    (s : State) : KeepsStock (refuseAccess offset write bytes data s) s := by
  unfold refuseAccess
  cases write <;> simp only [Bool.false_eq_true, if_true, if_false]
  · split <;> simp
  · split <;> simp

/-! ### The delivery engine -/

@[simp] theorem closeBuffer_keepsStock (r : Fin 16) (reason : Reason) (s : State) :
    KeepsStock (closeBuffer r reason s) s := by
  simp [closeBuffer]

@[simp] theorem takeTurn_keepsStock (r : Fin 16) (x : Record) (b : Buffer) (s : State) :
    KeepsStock (takeTurn r x b s) s := by
  unfold takeTurn
  split
  · simp [oversizeRecord]
  · split <;> simp [startRecord]

@[simp] theorem placeTurn_keepsStock (s : State) : KeepsStock (placeTurn s) s := by
  unfold placeTurn
  split
  · split
    · simp
    · dsimp only
      split <;> simp
  · simp

@[simp] theorem finishRecord_keepsStock (r : Fin 16) (x : Record) (s : State) : KeepsStock (finishRecord r x s) s := by
  simp [finishRecord, Route.count]

@[simp] theorem payloadOne_keepsStock (p : InProgress) (s : State) : KeepsStock (payloadOne p s) s := by
  unfold payloadOne
  split
  · dsimp only
    split <;> simp
  · simp

@[simp] theorem payloadLoop_keepsStock (k : Nat) (s : State) : KeepsStock (payloadLoop k s) s := by
  induction k generalizing s with
  | zero => exact .refl s
  | succ k ih =>
    unfold payloadLoop
    split
    · exact .refl s
    · exact (ih _).trans (payloadOne_keepsStock _ s)

@[simp] theorem continueRecord_keepsStock (k : Nat) (s : State) : KeepsStock (continueRecord k s) s := by
  unfold continueRecord; split <;> simp

@[simp] theorem tryClose_keepsStock (due : Bool) (reason : Reason) (r : Fin 16) (s : State) :
    KeepsStock (tryClose due reason r s) s := by
  unfold tryClose
  split
  · simp
  · split <;> simp

@[simp] theorem postEntry_keepsStock (e : Completion) (s : State) : KeepsStock (postEntry e s) s := .refl s

@[simp] theorem enterQuiesced_keepsStock (s : State) : KeepsStock (enterQuiesced s) s := by
  simp [enterQuiesced]

/-! ### Commands -/

@[simp] theorem endCmd_keepsStock (c : Cmd) (res : Result) (b : Word) (s : State) :
    KeepsStock (endCmd c res b s) s := .refl s

@[simp] theorem snapLane_keepsStock (clear : Bool) (n : Fin 4) (s : State) : KeepsStock (snapLane clear n s) s := by
  cases clear <;> simp [snapLane]

@[simp] theorem snapRoute_keepsStock (clear : Bool) (r : Fin 16) (s : State) : KeepsStock (snapRoute clear r s) s := by
  cases clear <;> simp [snapRoute]

@[simp] theorem snapCounters_keepsStock (target : Nat) (clear : Bool) (s : State) :
    KeepsStock (snapCounters target clear s) s := by
  unfold snapCounters
  split
  · simp
  · split
    · simp
    · exact (foldl_keepsStock (fun s r => snapRoute_keepsStock clear r s) _ _).trans
        (foldl_keepsStock (fun s n => snapLane_keepsStock clear n s) _ _)

@[simp] theorem runSnapshot_keepsStock (c : Cmd) (s : State) : KeepsStock (runSnapshot c s) s := by
  simp [runSnapshot]

@[simp] theorem runUnknown_keepsStock (s : State) : KeepsStock (runUnknown s) s := by
  unfold runUnknown
  split
  · split <;> simp
  · simp

@[simp] theorem armRoute_keepsStock (r : Fin 16) (s : State) : KeepsStock (armRoute r s).1 s := by
  unfold armRoute
  split
  · split <;> simp
  all_goals simp

@[simp] theorem startCmd_keepsStock (r : Fin 16) (s : State) : KeepsStock (startCmd r s).1 s := by
  unfold startCmd
  split
  · simp
  · split
    · split <;> simp
    all_goals simp

@[simp] theorem stopCmd_keepsStock (r : Fin 16) (s : State) : KeepsStock (stopCmd r s).1 s := by
  unfold stopCmd
  split
  · simp
  · split <;> simp
  all_goals simp

@[simp] theorem withdrawFrame_keepsStock (r : Fin 16) (s : State) (n : Fin 4) : KeepsStock (withdrawFrame r s n) s := by
  unfold withdrawFrame
  split
  · split
    · split <;> simp
    · simp
  · simp

@[simp] theorem discardAt_keepsStock (r : Fin 16) (keep : Nat) (s : State) : KeepsStock (discardAt r keep s) s := by
  unfold discardAt
  dsimp only
  split <;> simp

@[simp] theorem discardQueue_keepsStock (r : Fin 16) (keep k : Nat) (s : State) :
    KeepsStock (discardQueue r keep k s) s := by
  induction k generalizing s with
  | zero => exact .refl s
  | succ k ih => exact (ih _).trans (discardAt_keepsStock r keep s)

@[simp] theorem enterAborting_keepsStock (r : Fin 16) (s : State) : KeepsStock (enterAborting r s) s := by
  have withdrawn := foldl_keepsStock (withdrawFrame_keepsStock r) allLanes
    (s.modRoute r (fun t => { t with st := .aborting }))
  simpa [enterAborting] using withdrawn

@[simp] theorem abortCmd_keepsStock (r : Fin 16) (s : State) : KeepsStock (abortCmd r s).1 s := by
  unfold abortCmd
  split
  case h_5 =>
    split
    · simp
    · split <;> simp
  all_goals simp

@[simp] theorem flushCmd_keepsStock (r : Fin 16) (s : State) : KeepsStock (flushCmd r s).1 s := by
  unfold flushCmd
  split
  · split <;> simp
  · simp

@[simp] theorem runMatchWrite_keepsStock (c : Cmd) (s : State) : KeepsStock (runMatchWrite c s) s := by
  unfold runMatchWrite
  split <;> simp

@[simp] theorem runLaneResync_keepsStock (c : Cmd) (s : State) : KeepsStock (runLaneResync c s) s := by
  unfold runLaneResync
  dsimp only
  split <;> simp

@[simp] theorem runQuiesce_keepsStock (c : Cmd) (s : State) : KeepsStock (runQuiesce c s) s := by
  unfold runQuiesce; split <;> simp

@[simp] theorem runUnquiesce_keepsStock (c : Cmd) (s : State) : KeepsStock (runUnquiesce c s) s := by
  unfold runUnquiesce; split <;> simp

/-! ### The store controller -/

@[simp] theorem recordOutcome_keepsStock (o : LoadOutcome) (s : State) : KeepsStock (recordOutcome o s) s := by
  cases o <;> simp [recordOutcome, postOutcome]

@[simp] theorem endBoot_keepsStock (o : LoadOutcome) (s : State) : KeepsStock (endBoot o s) s := by
  simp [endBoot]

@[simp] theorem endStoreCmd_keepsStock (res : Result) (b : Word) (s : State) : KeepsStock (endStoreCmd res b s) s := by
  unfold endStoreCmd; split <;> simp

@[simp] theorem endReload_keepsStock (o : LoadOutcome) (s : State) : KeepsStock (endReload o s) s := by
  simp [endReload]

@[simp] theorem endStoreWord_keepsStock (res : Result) (b : Word) (s : State) :
    KeepsStock (endStoreWord res b s) s := by
  simp [endStoreWord]

@[simp] theorem nextRead_keepsStock (word : Nat) (job : StoreJob) (s : State) :
    KeepsStock (nextRead word job s) s := .refl s

@[simp] theorem operationFails_keepsStock (word : Nat) (s : State) : KeepsStock (operationFails word s) s := by
  unfold operationFails
  split <;> simp

@[simp] theorem opFail_keepsStock (s : State) : KeepsStock (opFail s) s := by
  unfold opFail
  split
  · split <;> simp
  · simp

@[simp] theorem bootStart_keepsStock (s : State) : KeepsStock (bootStart s) s := by
  unfold bootStart; split <;> simp

@[simp] theorem holdPort_keepsStock (word : Nat) (job : StoreJob) (s : State) :
    KeepsStock (holdPort word job s) s := .refl s

@[simp] theorem runStoreRead_keepsStock (c : Cmd) (s : State) : KeepsStock (runStoreRead c s) s := by
  unfold runStoreRead; split <;> simp

@[simp] theorem runStoreWrite_keepsStock (c : Cmd) (s : State) : KeepsStock (runStoreWrite c s) s := by
  unfold runStoreWrite
  split
  · simp
  · split <;> simp

@[simp] theorem runStoreLock_keepsStock (c : Cmd) (s : State) : KeepsStock (runStoreLock c s) s := by
  unfold runStoreLock
  dsimp only
  split
  · simp
  · split
    · simp
    · split <;> simp

@[simp] theorem runStoreReload_keepsStock (c : Cmd) (s : State) : KeepsStock (runStoreReload c s) s := by
  unfold runStoreReload; split <;> simp

/-! ### The interrupt unit -/

@[simp] theorem expireAt_keepsStock (s : State) : KeepsStock (expireAt s) s := by
  unfold expireAt; split <;> simp

@[simp] theorem releaseHeld_keepsStock (s : State) : KeepsStock (releaseHeld s) s := by
  unfold releaseHeld; split <;> simp

@[simp] theorem messageAt_keepsStock (s : State) : KeepsStock (messageAt s) s := by
  unfold messageAt askMessage
  dsimp only
  split
  · split <;> simp
  · simp

/-! ### The course of a tick -/

/-- As the tick moves on, lanes complete what their bits caused, and no route takes a descriptor or a buffer. -/
@[simp] theorem passTo_keepsStock (k : Nat) (s : State) : KeepsStock (passTo k s) s := by
  have settled (ns : List (Fin 4)) := foldl_keepsStock (fun u n => settleLane_keepsStock n u) ns s
  unfold passTo
  dsimp only
  split <;> split <;> simp [settled]

@[simp] theorem evaluate_keepsStock (s : State) : KeepsStock (evaluate s) s := by
  simp [evaluate]

/-- Ages and linger timers are not the stock (R15, R122). -/
theorem countTick_stock (t : Route) : t.countTick.stock = t.stock := by
  cases hr : t.read <;> cases hb : t.buf <;> simp [Route.countTick, hr, hb]

theorem tick_keepsStock (s : State) : KeepsStock (tick s) s :=
  KeepsStock.trans (t := evaluate (passTo tickEnd s)) ⟨mapVec_mapVec_eq countTick_stock, rfl⟩
    ((evaluate_keepsStock _).trans (passTo_keepsStock _ s))

theorem arrive_keepsStock (c : Instr) (s : State) : KeepsStock (arrive c s) s := by
  have passed : KeepsStock (arrive c s) (tickFor c s) := passTo_keepsStock _ _
  refine passed.trans ?_
  unfold tickFor
  split
  · exact .refl s
  · exact tick_keepsStock s

end Sys2Proof.Machine
end

section
/-! SUPPORT. The bounds of the descriptor caches and of the completion backlog (R111, R112, R116, R127): what fetches,
reads, opens, completes, cancels, drains, closes, resumes or resets keeps them, and the statement O8. -/

namespace Sys2Proof.Machine

/-! ### The bounds -/

/-- A cache is within its depth when it holds at most four entries, those of its read included unless that is stale
(R111, R112). -/
theorem cacheOk_iff (x : Route) :
    cacheOk x = true ↔ x.cache.length ≤ 4
      ∧ ∀ q, x.read = some q → q.stale = true ∨ x.cache.length + q.n ≤ 4 := by
  unfold cacheOk
  cases x.read <;> simp [Config.cacheDepth]

/-- Whether a cache is within its depth is a matter of the route's stock. -/
theorem cacheOk_eq_stock (x : Route) :
    cacheOk x = (decide (x.stock.1 ≤ 4) && x.stock.2.1.all fun p => p.2 || decide (x.stock.1 + p.1 ≤ 4)) := by
  unfold cacheOk Route.stock
  cases x.read <;> rfl

theorem cacheOk_congr {x y : Route} (h : x.stock = y.stock) : cacheOk x = cacheOk y := by
  rw [cacheOk_eq_stock, h, ← cacheOk_eq_stock]

/-- A cache that does not grow stays within its depth if it is not read for anew. -/
theorem cacheOk_mono {x y : Route} (hx : cacheOk x = true) (hcache : y.cache.length ≤ x.cache.length)
    (hread : ∀ q, y.read = some q → q.stale = true ∨ x.read = some q) : cacheOk y = true := by
  rw [cacheOk_iff] at hx ⊢
  obtain ⟨depth, brings⟩ := hx
  refine ⟨hcache.trans depth, fun q hq => (hread q hq).elim .inl fun same => ?_⟩
  exact (brings q same).imp_right fun h => by omega

/-- The routes of the backlog's entries differ, and none of them owns a buffer (R116, R127). -/
theorem backlogOk_iff (s : State) :
    BacklogOk s ↔ (s.eng.backlog.map Completion.route).Nodup ∧ ∀ c ∈ s.eng.backlog, (s.route c.route).buf = none := by
  simp only [BacklogOk, hasBacklog_iff]
  refine and_congr_right fun _ => ⟨fun h c hc => h c.route ⟨c, hc, rfl⟩, fun h r ⟨c, hc, hr⟩ => hr ▸ h c hc⟩

/-- If s meets the bounds of the caches and of the backlog, so does t. -/
structure StaysBounded (t s : State) : Prop where
  caches : CachesOk s → CachesOk t
  backlog : BacklogOk s → BacklogOk t

theorem StaysBounded.refl (s : State) : StaysBounded s s := ⟨id, id⟩

theorem StaysBounded.trans {u t s : State} (h : StaysBounded u t) (k : StaysBounded t s) : StaysBounded u s :=
  ⟨h.caches ∘ k.caches, h.backlog ∘ k.backlog⟩

/-- An operation that is carried out under a condition. -/
theorem StaysBounded.ite {p : Prop} [Decidable p] {t s : State} (h : p → StaysBounded t s) :
    StaysBounded (if p then t else s) s := by
  split
  next hp => exact h hp
  next => exact .refl s

/-- What keeps the stock keeps both bounds. -/
theorem StaysBounded.of_keeps {t s : State} (h : KeepsStock t s) : StaysBounded t s := by
  obtain ⟨routes, backlog⟩ := h
  have stock (r : Fin 16) : (t.route r).stock = (s.route r).stock := eq_of_mapVec_eq routes r
  refine ⟨fun hs r => (cacheOk_congr (stock r)).trans (hs r), fun hs => ?_⟩
  rw [backlogOk_iff] at hs ⊢
  rw [backlog]
  refine ⟨hs.1, fun c hc => ?_⟩
  obtain ⟨-, -, buf⟩ := stock_eq_iff.mp (stock c.route)
  rw [hs.2 c hc] at buf
  exact Option.not_isSome_iff_eq_none.mp (Bool.not_eq_true _ ▸ buf)

/-- A route replaced by one whose cache is within its depth, and which owns a buffer only where it did or where it has
no entry in the backlog. -/
theorem setRoute_staysBounded {s : State} {r : Fin 16} {x : Route}
    (hcache : cacheOk (s.route r) = true → cacheOk x = true)
    (hbuf : hasBacklog s r = true → (s.route r).buf = none → x.buf = none) : StaysBounded (s.setRoute r x) s := by
  refine ⟨fun hs q => ?_, fun ⟨routes, bufs⟩ => ⟨routes, fun q hq => ?_⟩⟩
  · rw [route_setRoute_ite]
    split
    next => exact hcache (hs r)
    next => exact hs q
  · rw [route_setRoute_ite]
    split
    next same => exact hbuf (same ▸ hq) (bufs r (same ▸ hq))
    next => exact bufs q hq

/-! ### Reads (R112, R113, R178) -/

theorem post_keepsStock (c b : Byte) (x y : Word) (s : State) : KeepsStock (post c b x y s) s := .refl s

theorem issue_keepsStock (t : BusTxn) (s : State) : KeepsStock (issue t s) s := .refl s

/-- A read asks for no more than its route's cache has room for (R112). -/
theorem fetch_staysBounded (r : Fin 16) (s : State) : StaysBounded (fetch r s) s := by
  unfold fetch
  dsimp only
  split
  · refine (StaysBounded.of_keeps (issue_keepsStock _ _)).trans (setRoute_staysBounded (fun hs => ?_) fun _ h => h)
    obtain ⟨depth, -⟩ := (cacheOk_iff _).mp hs
    refine (cacheOk_iff _).mpr ⟨depth, fun q hq => .inr ?_⟩
    cases hq
    simp only [Route.fetchCount, Config.cacheDepth]
    omega
  · exact .refl s

theorem length_answerEntries (t : Route) (w : Window) (q : ReadReq) (answer : ReadAnswer) :
    (answerEntries t w q answer).length = q.n := by
  cases answer with
  | error => simp [answerEntries, faultEntries_eq]
  | data bs => rw [answerEntries, length_dataEntries, length_descsOf]

/-- A read that ends brings the entries it was to bring, or none if it is stale (R113). -/
theorem endRead_staysBounded {s : State} {r : Fin 16} {q : ReadReq} {entries : List CacheEntry}
    (hread : (s.route r).read = some q) (hlen : entries.length = q.n) : StaysBounded (endRead r q entries s) s := by
  refine setRoute_staysBounded (fun hs => ?_) fun _ h => h
  obtain ⟨depth, brings⟩ := (cacheOk_iff _).mp hs
  refine (cacheOk_iff _).mpr ⟨?_, nofun⟩
  dsimp only
  split
  next => exact depth
  next fresh =>
    rw [List.length_append, hlen]
    exact (brings q hread).resolve_left fresh

theorem readDone_staysBounded (r : Fin 16) (answer : ReadAnswer) (s : State) :
    StaysBounded (readDone r answer s) s := by
  unfold readDone
  split
  · exact .of_keeps ⟨rfl, rfl⟩
  · split
    next q hread => exact .ite fun _ => endRead_staysBounded hread (length_answerEntries _ _ q answer)
    next => exact .refl s

theorem readTimeout_staysBounded (r : Fin 16) (s : State) : StaysBounded (readTimeout r s) s := by
  unfold readTimeout
  split
  · exact .ite fun _ => .of_keeps ⟨rfl, rfl⟩
  · split
    next q hread => exact .ite fun _ => endRead_staysBounded hread (by simp [faultEntries_eq])
    next => exact .refl s

/-! ### Buffers and routes (R102, R116, R103, R99, R101) -/

/-- A halt makes the route's read stale (R102). -/
theorem haltRoute_staysBounded (r : Fin 16) (f : DescFault) (idx : Nat) (s : State) :
    StaysBounded (haltRoute r f idx s) s := by
  refine (StaysBounded.of_keeps (post_keepsStock _ _ _ _ _)).trans (setRoute_staysBounded (fun hs => ?_) fun _ h => h)
  refine cacheOk_mono hs le_rfl fun q hq => .inl ?_
  obtain ⟨p, -, rfl⟩ := Option.map_eq_some_iff.mp hq
  rfl

/-- A buffer is opened for a route without an entry in the backlog, on the entry at its cache head (R116). -/
theorem openBuffer_staysBounded (r : Fin 16) (s : State) : StaysBounded (openBuffer r s) s := by
  unfold openBuffer
  refine .ite fun needs => ?_
  split
  next => exact .refl s
  next e rest hcache =>
    split
    · exact haltRoute_staysBounded r _ _ s
    · refine setRoute_staysBounded (fun hs => cacheOk_mono hs ?_ fun q hq => .inr hq) fun has _ => ?_
      · simp [hcache]
      · simp [needsBuffer, has] at needs
    · exact .refl s

theorem closeRoute_staysBounded (r : Fin 16) (how : Word) (s : State) : StaysBounded (closeRoute r how s) s :=
  (StaysBounded.of_keeps (post_keepsStock _ _ _ _ _)).trans
    (setRoute_staysBounded (fun hs => cacheOk_mono hs (Nat.zero_le _) fun _ hq => .inr hq) fun _ h => h)

theorem resumeCmd_staysBounded (r : Fin 16) (s : State) : StaysBounded (resumeCmd r s).1 s := by
  unfold resumeCmd
  split
  · have emptied :
        StaysBounded (s.modRoute r fun t => { t with cache := [], rfetch := t.rdone, st := (s.route r).hfrom }) s :=
      setRoute_staysBounded (fun hs => cacheOk_mono hs (Nat.zero_le _) fun _ hq => .inr hq) fun _ h => h
    dsimp only
    split
    · exact (StaysBounded.of_keeps (enterRunning_keepsStock r _)).trans emptied
    · exact emptied
  · exact .refl s

/-! ### Completion entries (R123, R126, R127) -/

/-- An entry joins the tail of the backlog, and no route is touched (R127). -/
theorem joinBacklog_reads (c : Completion) (s : State) :
    (joinBacklog c s).routes = s.routes ∧ (joinBacklog c s).eng.backlog = s.eng.backlog ++ [c] := by
  by_cases h : s.eng.backlog = []
  · rw [joinBacklog_first c h, h]
    exact ⟨rfl, rfl⟩
  · rw [joinBacklog_behind c h]
    exact ⟨rfl, rfl⟩

/-- An entry joins the backlog for a route that had none there and owns no buffer. -/
theorem BacklogOk.join {c : Completion} {s : State} (hs : BacklogOk s) (hnew : hasBacklog s c.route = false)
    (hbuf : (s.route c.route).buf = none) : BacklogOk (joinBacklog c s) := by
  obtain ⟨routes, backlog⟩ := joinBacklog_reads c s
  have route (r : Fin 16) : (joinBacklog c s).route r = s.route r := by simp only [State.route, routes]
  have absent : c.route ∉ s.eng.backlog.map Completion.route := by
    rw [← Bool.not_eq_true, hasBacklog_iff] at hnew
    exact fun h => hnew (List.mem_map.mp h)
  obtain ⟨distinct, bufs⟩ := (backlogOk_iff s).mp hs
  rw [backlogOk_iff, backlog]
  refine ⟨?_, fun d hd => ?_⟩
  · rw [List.map_append]
    exact List.nodup_append_comm.mp (List.nodup_cons.mpr ⟨absent, distinct⟩)
  · rw [route]
    rcases List.mem_append.mp hd with old | new
    · exact bufs d old
    · rwa [List.mem_singleton.mp new]

/-- The making of an entry (R123) for a route that has none in the backlog, and that it leaves without a buffer. -/
theorem makeEntry_staysBounded {c : Completion} {made : State → State} {s : State} (hmade : StaysBounded (made s) s)
    (heng : (made s).eng = s.eng) (hbuf : ((made s).route c.route).buf = none)
    (hnew : BacklogOk s → hasBacklog s c.route = false) : StaysBounded (makeEntry c made s) s := by
  rcases makeEntry_cases c made s with ⟨eq, -⟩ | ⟨eq, -⟩ | ⟨eq, -⟩ <;> rw [eq]
  · obtain ⟨routes, -⟩ := joinBacklog_reads c (made s)
    refine ⟨fun hs r => ?_, fun hs => (hmade.backlog hs).join ?_ hbuf⟩
    · rw [State.route, routes]
      exact hmade.caches hs r
    · rw [hasBacklog, heng]
      exact hnew hs
  · exact (StaysBounded.of_keeps (postEntry_keepsStock c _)).trans hmade
  · exact .refl s

/-- A route whose buffer is closed has no entry in the backlog, and the buffer goes as its entry is made (R123). -/
theorem completeBuffer_staysBounded (r : Fin 16) (s : State) : StaysBounded (completeBuffer r s) s := by
  unfold completeBuffer
  split
  next b hbuf =>
    split
    next why hwhy =>
      split
      · exact .refl s
      · refine makeEntry_staysBounded (setRoute_staysBounded (fun hs => cacheOk_mono hs le_rfl fun _ hq => .inr hq)
          fun _ _ => rfl) rfl ?_ fun hs => Bool.eq_false_iff.mpr fun has => ?_
        · exact congrArg Route.buf (route_modRoute s r _)
        · cases hbuf.symm.trans (hs.2 r has)
    next => exact .refl s
  next => exact .refl s

/-- A CANCEL entry is made for a route with no buffer and no entry in the backlog (R101). -/
theorem cancelOne_staysBounded (r : Fin 16) (s : State) : StaysBounded (cancelOne r s) s := by
  refine .ite fun due => ?_
  obtain ⟨-, hbuf, hnew, -⟩ := (cancelDue_iff s r).mp due
  have fewer : (s.route r).cancelDone.cache.length ≤ (s.route r).cache.length := List.length_eraseP_le
  refine makeEntry_staysBounded (setRoute_staysBounded (fun hs => cacheOk_mono hs fewer fun _ hq => .inr hq)
    fun _ h => h) rfl ?_ fun _ => hnew
  exact (congrArg Route.buf (route_modRoute s r _)).trans hbuf

/-- The entry at the backlog's head leaves it for the ring (R127). -/
theorem postHead_staysBounded {c : Completion} {rest : List Completion} {s : State} (h : s.eng.backlog = c :: rest) :
    StaysBounded (postHead c rest s) s := by
  refine ⟨id, fun hs => ?_⟩
  rw [backlogOk_iff, h] at hs
  obtain ⟨distinct, bufs⟩ := hs
  exact (backlogOk_iff _).mpr ⟨distinct.of_cons, fun d hd => bufs d (List.mem_cons_of_mem c hd)⟩

theorem drainLoop_staysBounded (k : Nat) (s : State) : StaysBounded (drainLoop k s) s := by
  induction k generalizing s with
  | zero => exact .refl s
  | succ k ih =>
    unfold drainLoop
    split
    next => exact .refl s
    next c rest hbacklog =>
      refine .ite fun _ => ?_
      have posted : StaysBounded (postHead c rest s) s := postHead_staysBounded hbacklog
      dsimp only
      split
      · exact StaysBounded.trans (t := postHead c rest s) (.of_keeps ⟨rfl, rfl⟩) posted
      · exact (ih _).trans posted

/-! ### Resets (R175 to R177) -/

/-- Empty caches, no read and no backlog are within every bound. -/
theorem staysBounded_of_empty {t : State} (s : State) (routes : ∀ r, (t.route r).cache = [] ∧ (t.route r).read = none)
    (backlog : t.eng.backlog = []) : StaysBounded t s := by
  refine ⟨fun _ r => ?_, fun _ => (backlogOk_iff t).mpr ?_⟩
  · obtain ⟨cache, read⟩ := routes r
    simp [cacheOk_iff, cache, read]
  · simp [backlog]

theorem writeDevctl_staysBounded (data : Word) (allowReset : Bool) (s : State) :
    StaysBounded (writeDevctl data allowReset s) s := by
  unfold writeDevctl
  dsimp only
  split
  · refine staysBounded_of_empty s (fun r => ?_) rfl
    rw [deviceReset_route]
    exact ⟨rfl, rfl⟩
  · exact .of_keeps ⟨rfl, rfl⟩

/-- Power-on and host reset (R175, R176). -/
theorem staysBounded_of_reset {t : State} (s : State) (routes : t.routes = State.reset.routes)
    (eng : t.eng = State.reset.eng) : StaysBounded t s := by
  have route (r : Fin 16) : State.reset.route r = Route.reset := by
    revert r
    decide
  refine staysBounded_of_empty s (fun r => ?_) (congrArg Engine.backlog eng)
  have same : t.route r = Route.reset := (congrArg (·[r.val]) routes).trans (route r)
  rw [same]
  exact ⟨rfl, rfl⟩

/-! ### Host accesses and presets -/

/-- The write of a register, by the host or by a preset. -/
theorem writeReg_staysBounded (report : Bool) (data : Word) (s : State) (r : Reg) :
    StaysBounded (writeReg report data s r).1 s := by
  cases r with
  | devctl => exact writeDevctl_staysBounded data report s
  | _ => exact .of_keeps (by simp [writeReg, writeBstat, popEvent])

theorem hostWriteReg_staysBounded (r : Reg) (data : Word) (s : State) : StaysBounded (hostWriteReg r data s) s :=
  .ite fun _ => writeReg_staysBounded true data s r

theorem access_staysBounded (offset : BitVec 12) (write : Bool) (bytes : BitVec 4) (multi : Bool) (data : Word)
    (s : State) : StaysBounded (access offset write bytes multi data s) s := by
  unfold access
  split
  · exact .of_keeps (refuseAccess_keepsStock _ _ _ _ _)
  · split
    · unfold hostWrite
      split
      · exact hostWriteReg_staysBounded _ data s
      · exact .refl s
    · exact .of_keeps (hostRead_keepsStock _ _)

theorem applyPairs_staysBounded (ps : List (Word × Word)) (s : State) : StaysBounded (applyPairs ps s).1 s := by
  induction ps generalizing s with
  | nil => exact .refl s
  | cons p ps ih =>
    refine (ih (applyPair p s).1).trans ?_
    unfold applyPair
    split
    · exact writeReg_staysBounded false p.2 s _
    · exact .refl s

theorem judgeList_staysBounded (ws : List Word) (s : State) : StaysBounded (judgeList ws s).1 s := by
  unfold judgeList
  split
  · exact .refl s
  · exact applyPairs_staysBounded _ s

theorem operationEnds_staysBounded (word : Nat) (data : Word) (s : State) :
    StaysBounded (operationEnds word data s) s := by
  unfold operationEnds
  split
  case h_2 =>
    split
    · exact .of_keeps (by simp)
    · exact (StaysBounded.of_keeps (endBoot_keepsStock _ _)).trans (judgeList_staysBounded _ s)
  case h_5 =>
    split
    · exact .of_keeps (by simp)
    · exact (StaysBounded.of_keeps (endReload_keepsStock _ _)).trans (judgeList_staysBounded _ s)
  case h_1 => exact .of_keeps (by split <;> simp [endIdentity])
  case h_3 | h_4 => exact .of_keeps (endStoreWord_keepsStock _ _ _)
  all_goals exact .refl s

theorem opDone_staysBounded (data : Word) (s : State) : StaysBounded (opDone data s) s := by
  unfold opDone
  split
  · exact .ite fun _ => operationEnds_staysBounded _ data s
  · exact .refl s

/-! ### Engine steps and commands -/

theorem engineStep_staysBounded {f : State → State} {s : State} (h : StaysBounded (f s) s) :
    StaysBounded (engineStep f s) s := by
  unfold engineStep
  split
  · exact .refl s
  · exact h

/-- The command step, by its owner. -/
theorem runCmd_staysBounded {op : Byte} {owner : Cmd → State → State} {s : State}
    (h : ∀ c, StaysBounded (owner c s) s) : StaysBounded (runCmd op owner s) s := by
  unfold runCmd
  split
  · refine .ite fun _ => ?_
    split
    · exact h _
    · exact .of_keeps (endCmd_keepsStock _ _ _ s)
  · exact .refl s

/-- A route command, by its effect. -/
theorem runRouteCmd_staysBounded {act : Fin 16 → State → State × Result} {s : State}
    (h : ∀ r, StaysBounded (act r s).1 s) (c : Cmd) : StaysBounded (runRouteCmd act c s) s :=
  (StaysBounded.of_keeps (endCmd_keepsStock c _ _ _)).trans (h c.route)

/-! ### Every step -/

/-- A command in its turn: what fetches, reads, opens, completes, cancels, drains, closes, resumes or resets by its own
lemma, any other because it keeps the stock. -/
theorem exec_staysBounded (i : Instr) (s : State) : ∃ t, exec i s = .next t ∧ StaysBounded t (arrive i s) := by
  cases i with
  | powerOnReset | hostReset => exact ⟨_, rfl, staysBounded_of_reset _ rfl rfl⟩
  | storeOperationDone => exact ⟨_, rfl, opDone_staysBounded _ _⟩
  | accessError | registerWrite => exact ⟨_, rfl, access_staysBounded _ _ _ _ _ _⟩
  | deviceReset | laneConfigWrite | laneEnable | laneDisable | linjWrite | tgcfgWrite | rpostWrite
  | routeConfigWrite | windowWrite | crbaseWrite | completionRingEnable | completionRingDisable | crconsWrite
  | bshedWrite | bstatWrite | evpop | complClear | cmpmodWrite | commandIssue =>
    exact ⟨_, rfl, hostWriteReg_staysBounded _ _ _⟩
  | descriptorFetch => exact ⟨_, rfl, engineStep_staysBounded (fetch_staysBounded _ _)⟩
  | descriptorReadDone => exact ⟨_, rfl, readDone_staysBounded _ _ _⟩
  | descriptorReadTimeout => exact ⟨_, rfl, readTimeout_staysBounded _ _⟩
  | bufferOpen => exact ⟨_, rfl, engineStep_staysBounded (openBuffer_staysBounded _ _)⟩
  | completionEntry => exact ⟨_, rfl, engineStep_staysBounded (completeBuffer_staysBounded _ _)⟩
  | cancelEntry => exact ⟨_, rfl, engineStep_staysBounded (cancelOne_staysBounded _ _)⟩
  | backlogDrain => exact ⟨_, rfl, engineStep_staysBounded (drainLoop_staysBounded _ _)⟩
  | routeDrained | routeAbortDone =>
    exact ⟨_, rfl, engineStep_staysBounded (.ite fun _ => closeRoute_staysBounded _ _ _)⟩
  | routeResume => exact ⟨_, rfl, runCmd_staysBounded (runRouteCmd_staysBounded fun r => resumeCmd_staysBounded r _)⟩
  | routeArm | routeStart | routeStop | routeAbort | routeFlush =>
    exact ⟨_, rfl, runCmd_staysBounded (runRouteCmd_staysBounded fun r => .of_keeps (by simp))⟩
  | nop | matchWrite | laneResync | counterSnapshot | epochLoadNow | storeRead | storeWrite | storeLock
  | storeReload | quiesce | unquiesce =>
    exact ⟨_, rfl, runCmd_staysBounded fun c => .of_keeps (by simp [runNop, runEpochLoad, loadEpoch])⟩
  | recordPlace | payloadWrite | lingerExpiry | bufferCloseStop | bufferCloseQuiesce =>
    exact ⟨_, rfl, engineStep_staysBounded (.of_keeps (by simp))⟩
  | quiesced => exact ⟨_, rfl, engineStep_staysBounded (.ite fun _ => .of_keeps (enterQuiesced_keepsStock _))⟩
  | syncEdge => exact ⟨_, rfl, .of_keeps (sampleSync_keepsStock _ _)⟩
  | syncMissing => exact ⟨_, rfl, .of_keeps (syncMissingAt_keepsStock _)⟩
  | acceptedTransition input level =>
    cases input with
    | sync => exact ⟨_, rfl, .of_keeps (sampleSync_keepsStock _ _)⟩
    | trig n => exact ⟨_, rfl, .of_keeps (sampleTrigger_keepsStock n level _)⟩
  | interruptMessage => exact ⟨_, rfl, .of_keeps (by dsimp only; split <;> simp)⟩
  | _ => exact ⟨_, rfl, .of_keeps (by simp)⟩

/-- Every step, the end of a tick or a command in its turn, keeps both bounds. -/
theorem step_staysBounded {s t : State} (h : step s = .next t) : StaysBounded t s := by
  unfold step at h
  split at h
  · cases h
    exact .of_keeps (tick_keepsStock s)
  · rename_i c rest _
    obtain ⟨u, hexec, hu⟩ := exec_staysBounded c { s with pending := rest }
    rw [h] at hexec
    cases hexec
    exact hu.trans (.of_keeps ((arrive_keepsStock c { s with pending := rest }).trans (.refl s)))

/-- Settles O8: what a step does to a cache, a read, a buffer or the backlog keeps both bounds (`step_staysBounded`). -/
theorem stepKeepsCachesAndBacklog : Obligations.StepKeepsCachesAndBacklog :=
  ⟨fun _ _ hs hstep => (step_staysBounded hstep).caches hs, fun _ _ hs hstep => (step_staysBounded hstep).backlog hs⟩

end Sys2Proof.Machine
end

section
/-! SUPPORT. The arbitration turn of the engine (R117, R120): the statement O55. -/

namespace Sys2Proof.Machine

/-! ### The route served (R117) -/

theorem allRoutes_eq_finRange : allRoutes = List.finRange 16 := rfl

/-- The route served is the first with work among those that stand 0, 1, 2, ... places behind the one after the last
served. -/
theorem nextServed_eq (s : State) :
    nextServed s = (Fin.find? fun k => hasWork s (s.eng.lastServed + 1 + k)).map (s.eng.lastServed + 1 + ·) := by
  rw [nextServed, allRoutes_eq_finRange, List.find?_map, Fin.find?_eq_find?_finRange]
  rfl

/-- The route served has work, and no route with work stands fewer places behind the one after the last served. -/
theorem nextServed_eq_some_iff (s : State) (r : Fin 16) :
    nextServed s = some r ↔ hasWork s r = true
      ∧ ∀ q, hasWork s q = true → (r - s.eng.lastServed - 1).val ≤ (q - s.eng.lastServed - 1).val := by
  have place (q : Fin 16) : s.eng.lastServed + 1 + (q - s.eng.lastServed - 1) = q := by abel
  have placed (k : Fin 16) : s.eng.lastServed + 1 + k = r ↔ k = r - s.eng.lastServed - 1 :=
    ⟨fun h => by rw [← h]; abel, fun h => by rw [h, place]⟩
  simp only [nextServed_eq, Option.map_eq_some_iff, placed, exists_eq_right, Fin.find?_eq_some_iff, place]
  refine and_congr_right fun _ => ⟨fun before q hq => ?_, fun nearest k hk => ?_⟩
  · refine le_of_not_gt fun nearer => ?_
    have idle := before _ nearer
    rw [place, hq] at idle
    exact Bool.noConfusion idle
  · refine Bool.eq_false_iff.mpr fun work => absurd hk (not_lt_of_ge ?_)
    have far := nearest _ work
    rwa [show s.eng.lastServed + 1 + k - s.eng.lastServed - 1 = k by abel] at far

/-! ### What the turn does (R117, R120) -/

section
variable {r : Fin 16} {x : Record} {rest : List Record} {b : Buffer} {s : State}

/-- The state in which the turn has gone to route r. -/
def State.serving (s : State) (r : Fin 16) : State := { s with eng := { s.eng with lastServed := r } }

/-- While MASTER_EN is 0 or a record is in progress no turn is taken. -/
theorem placeTurn_idle (h : s.host.masterEn = false ∨ s.eng.inProg ≠ none) : placeTurn s = s := by
  refine if_neg fun ⟨on, free⟩ => ?_
  rcases h with off | taken
  · exact Bool.false_ne_true (off.symm.trans on)
  · exact taken free

/-- The turn goes to the route served, with its head record and its buffer. -/
theorem placeTurn_serves (hen : s.host.masterEn = true) (hfree : s.eng.inProg = none) (hserved : nextServed s = some r)
    (hqueue : (s.route r).queue = x :: rest) (hbuf : (s.route r).buf = some b) :
    placeTurn s = takeTurn r x b (s.serving r) := by
  unfold placeTurn
  rw [if_pos ⟨hen, hfree⟩, hserved]
  dsimp only
  split
  next _ _ _ hq hb =>
    cases hqueue.symm.trans hq
    cases hbuf.symm.trans hb
    rfl
  next other => exact (other _ _ _ hqueue hbuf).elim

theorem takeTurn_oversize (h : b.used = 0) (hlong : b.length < x.length) :
    takeTurn r x b s = oversizeRecord r x b s := if_pos ⟨h, hlong⟩

theorem takeTurn_full (hfits : ¬(b.used = 0 ∧ b.length < x.length))
    (hfull : (s.route r).single = false ∧ b.length < b.used + x.length) :
    takeTurn r x b s = closeBuffer r .full s := (if_neg hfits).trans (if_pos hfull)

theorem takeTurn_starts (hfits : ¬(b.used = 0 ∧ b.length < x.length))
    (hroom : ¬((s.route r).single = false ∧ b.length < b.used + x.length)) :
    takeTurn r x b s = startRecord r b s := (if_neg hfits).trans (if_neg hroom)

/-- The head record is placed at the used count, and the linger timer stops (R117, R118, R122). -/
theorem startRecord_eq (hbuf : (s.route r).buf = some b) :
    startRecord r b s =
      { s.setRoute r { s.route r with buf := some { b with linger := none } } with
        eng := { s.eng with inProg := some { route := r, off := b.used, done := 0 } } } := by
  have stopped : (s.route r).buf.map (fun b => { b with linger := none }) = some { b with linger := none } := by
    rw [hbuf]
    rfl
  rw [← stopped]
  rfl

/-- What is left of a head record that is discarded as oversize: its blocks are free, its marks are lost, and its route
has counted it; with SHED at 0 the only event is 0x63 (R120). -/
theorem oversizeRecord_reads (hqueue : (s.route r).queue = x :: rest) :
    (oversizeRecord r x b s).route r = ({ s.route r with queue := rest } : Route).count .oversizeDiscarded 1
      ∧ (∀ q, q ≠ r → (oversizeRecord r x b s).route q = s.route q)
      ∧ (oversizeRecord r x b s).buf.free = s.buf.free ++ x.chain
      ∧ ((oversizeRecord r x b s).lane x.lane).counter .marksLost
          = (s.lane x.lane).counter .marksLost + (if x.mark then 1 else 0)
      ∧ (s.buf.shed = false →
          (oversizeRecord r x b s).ev
            = (post 0x63 (srcIdx r) (packWord [(x.length, 0), (b.idx, 16)]) x.serial s).ev) := by
  obtain ⟨route_r, route_ne, free, -⟩ := dropHead_reads true hqueue
  obtain ⟨sh, ev, trigs, dropped, quiet⟩ := dropHead_frame r true s x rest hqueue
  have counted (q : Fin 16) : (oversizeRecord r x b s).route q
      = ((dropHead r true s).modRoute r (fun t => t.count .oversizeDiscarded 1)).route q := rfl
  refine ⟨?_, fun q hq => ?_, free, ?_, fun hshed => ?_⟩
  · rw [counted, route_modRoute, route_r]
  · rw [counted, route_modRoute_ne _ _ hq, route_ne q hq]
  · have lane : (oversizeRecord r x b s).lane x.lane
        = (loseMarks x.lane x.mark (s.setRoute r { s.route r with queue := rest })).lane x.lane := by
      change (dropHead r true s).lane x.lane = _
      rw [dropped]
      rfl
    rw [lane, loseMarks_addLost, lane_setLane, counter_addLost]
    rfl
  · have events : (dropHead r true s).ev = s.ev := by
      rw [dropped]
      exact (quiet hshed).1
    obtain ⟨-, -, clock⟩ := dropHead_keepsClock r true s
    simp only [oversizeRecord, post_eq, bumpRoute_ev, bumpRoute_tb, events, clock]

end

/-- Settles O55: the turn by `placeTurn_serves` and what it meets, the route served by `nextServed_eq_some_iff`. -/
theorem arbitrationTurns : Obligations.ArbitrationTurns := by
  refine ⟨?turn, fun r s => nextServed_eq_some_iff s r⟩
  intro r x rest b s hbusy y eng
  have act : Acts .recordPlace s (placeTurn s) := acts_engineStep (fun _ => rfl) hbusy
  refine ⟨fun idle => ?idle, fun hen hfree hserved hqueue hbuf => ?_⟩
  case idle => rwa [placeTurn_idle idle] at act
  rw [placeTurn_serves hen hfree hserved hqueue hbuf] at act
  refine ⟨fun hempty hlong => ?oversize, fun hfits hpacked hfull hopen => ?full, fun hfits hroom => ?starts⟩
  case oversize =>
    rw [takeTurn_oversize hempty hlong] at act
    obtain ⟨route_r, route_ne, free, marks, event⟩ := oversizeRecord_reads (s := s.serving r) (b := b) hqueue
    obtain ⟨-, engine, -, -, -, -, bus, -⟩ := dropHead_keepsUnits r true (s.serving r)
    refine ⟨_, act, engine, congrArg Route.queue route_r, (congrArg Route.buf route_r).trans hbuf, ?_, free, route_ne,
      marks, event, bus⟩
    exact (congrArg (Route.counter · .oversizeDiscarded) route_r).trans (route_counter_count_self _ _ _)
  case full =>
    rw [takeTurn_full (s := s.serving r) hfits ⟨hpacked, hfull⟩,
      closeBuffer_open (s := s.serving r) .full hbuf hopen] at act
    exact act
  case starts =>
    rw [takeTurn_starts (s := s.serving r) hfits hroom, startRecord_eq (s := s.serving r) hbuf] at act
    exact act

end Sys2Proof.Machine
end

section
/-! SUPPORT. The configuration of the completion ring (R125): the statement O39. -/

namespace Sys2Proof.Machine

section
variable {data : Word} {s : State}

/-- A good size and base enable the ring and restart its counts and its phase (R125). -/
theorem writeCrcfg_enables (hall : allDisabled s = true) (hen : data.getLsbD 8 = true)
    (hsize : 6 ≤ (data.extractLsb' 0 4 : BitVec 4).toNat ∧ (data.extractLsb' 0 4 : BitVec 4).toNat ≤ 14)
    (hbase : s.eng.crbaseLo.toNat % 64 = 0) :
    (writeCrcfg data true s).1 =
      { s with
        eng :=
          { s.eng with
            crsize := data.extractLsb' 0 4, crEnable := true, crprod := 0, crcons := 0, phase := true } } := by
  simp only [writeCrcfg, hall, hen, hsize, hbase, and_self, if_true]

/-- A bad size or base, or no ENABLE, leaves the ring disabled and keeps its counts (R125; log entry 17). -/
theorem writeCrcfg_disables (hall : allDisabled s = true)
    (h : data.getLsbD 8 = true → (data.extractLsb' 0 4 : BitVec 4).toNat < 6
      ∨ 14 < (data.extractLsb' 0 4 : BitVec 4).toNat ∨ s.eng.crbaseLo.toNat % 64 ≠ 0) :
    (writeCrcfg data true s).1 =
      { s with eng := { s.eng with crsize := data.extractLsb' 0 4, crEnable := false } } := by
  unfold writeCrcfg
  rw [if_pos hall]
  dsimp only
  split
  next hen =>
    rw [if_neg]
    rintro ⟨small, large, base⟩
    rcases h hen with bad | bad | bad
    exacts [absurd small (Nat.not_le.mpr bad), absurd large (Nat.not_le.mpr bad), bad base]
  next => rfl

end

/-- Settles O39: both rows are a CRCFG write, by its guard, ENABLE, size and base. -/
theorem completionRingConfiguration : Obligations.CompletionRingConfiguration := by
  intro data s hload hbusy n refused
  have enable : Acts (.completionRingEnable data) s (writeCrcfg data true s).1 :=
    acts_hostWrite (g := .crcfg) (fun _ => rfl) hload hbusy
  have disable : Acts (.completionRingDisable data) s (writeCrcfg data true s).1 :=
    acts_hostWrite (g := .crcfg) (fun _ => rfl) hload hbusy
  refine ⟨fun all => ?written, fun ⟨r, enabled⟩ => ?refused⟩
  case written =>
    have hall : allDisabled s = true := (allDisabled_iff s).mpr all
    refine ⟨fun hen small large base => ?_, fun hen bad => ?_, fun off => ?_⟩
    · rwa [writeCrcfg_enables hall hen ⟨small, large⟩ base] at enable
    · rwa [writeCrcfg_disables hall fun _ => bad] at enable
    · rwa [writeCrcfg_disables hall fun hen => absurd (off.symm.trans hen) Bool.false_ne_true] at disable
  case refused =>
    have hall : allDisabled s = false :=
      Bool.eq_false_iff.mpr fun h => enabled ((allDisabled_iff s).mp h r)
    rw [writeCrcfg_refused hall] at enable disable
    exact ⟨enable, disable⟩

end Sys2Proof.Machine
end

section
/-! SUPPORT. What leaves the reference counter alone: every command but a power-on reset and the epoch loads (R129, R135);
the statement O10. -/

namespace Sys2Proof.Machine

/-- What keeps the timebase keeps its counter. -/
theorem KeepsClock.ref {t s : State} (h : KeepsClock t s) : t.tb.ref = s.tb.ref :=
  congrArg Timebase.ref h.2.2

/-- A SYNC that goes missing is reported, and the counter counts on (R134). -/
theorem syncMissingAt_ref (s : State) : (syncMissingAt s).tb.ref = s.tb.ref := by
  unfold syncMissingAt
  split <;> rfl

/-! ### Host writes and presets -/

/-- A device reset disarms the epoch load, and the counter counts on (R177). -/
theorem writeDevctl_ref (data : Word) (allowReset : Bool) (s : State) :
    (writeDevctl data allowReset s).tb.ref = s.tb.ref := by
  unfold writeDevctl
  dsimp only
  split <;> rfl

/-- REF is read only: a write of the timebase's registers prepares a load, and makes none (R130). -/
theorem writeReg_ref (report : Bool) (data : Word) (s : State) (r : Reg) :
    (writeReg report data s r).1.tb.ref = s.tb.ref := by
  cases r with
  | devctl => exact writeDevctl_ref data report s
  | _ => simp [writeReg, writeCmpmod, writeBshed, writeBstat, popEvent]

theorem hostWriteReg_ref (r : Reg) (data : Word) (s : State) : (hostWriteReg r data s).tb.ref = s.tb.ref := by
  unfold hostWriteReg
  split
  · exact writeReg_ref true data s r
  · rfl

theorem access_ref (offset : BitVec 12) (write : Bool) (bytes : BitVec 4) (multi : Bool) (data : Word) (s : State) :
    (access offset write bytes multi data s).tb.ref = s.tb.ref := by
  unfold access
  split
  · exact (refuseAccess_keepsClock offset write bytes data s).ref
  · split
    · unfold hostWrite
      split
      · exact hostWriteReg_ref _ data s
      · rfl
    · exact (hostRead_keepsClock _ s).ref

theorem applyPairs_ref (ps : List (Word × Word)) (s : State) : (applyPairs ps s).1.tb.ref = s.tb.ref := by
  induction ps generalizing s with
  | nil => rfl
  | cons p ps ih =>
    have one : (applyPair p s).1.tb.ref = s.tb.ref := by
      unfold applyPair
      split
      · exact writeReg_ref false p.2 s _
      · rfl
    exact (ih _).trans one

theorem judgeList_ref (ws : List Word) (s : State) : (judgeList ws s).1.tb.ref = s.tb.ref := by
  unfold judgeList
  split
  · rfl
  · exact applyPairs_ref _ s

/-- The end of a store operation applies presets at most, and none of them is REF (R169, R171). -/
theorem opDone_ref (data : Word) (s : State) : (opDone data s).tb.ref = s.tb.ref := by
  unfold opDone
  split
  · split
    · unfold operationEnds
      split
      · split <;> simp [endIdentity]
      · split <;> simp [judgeList_ref]
      · simp
      · simp
      · split <;> simp [judgeList_ref]
      all_goals rfl
    · rfl
  · rfl

/-! ### Commands -/

/-- The command step keeps the clock when the command's owner does. -/
theorem runCmd_keepsClock {op : Byte} {owner : Cmd → State → State} {s : State}
    (h : ∀ c, KeepsClock (owner c s) s) : KeepsClock (runCmd op owner s) s := by
  unfold runCmd
  split
  · refine .ite ?_
    split
    · exact h _
    · exact endCmd_keepsClock _ _ _ s
  · exact .refl s

/-- A command that may not load the counter leaves it as it was at its turn. -/
theorem exec_ref {i : Instr} (hi : mayLoadCounter i = false) (s : State) :
    ∃ t, exec i s = .next t ∧ t.tb.ref = (arrive i s).tb.ref := by
  cases i with
  | powerOnReset | syncEdge | epochLoadNow => cases hi
  | acceptedTransition input level =>
    cases input with
    | sync => cases hi
    | trig n => exact ⟨_, rfl, (sampleTrigger_keepsClock n level _).ref⟩
  | hostReset => exact ⟨_, rfl, rfl⟩
  | storeOperationDone => exact ⟨_, rfl, opDone_ref _ _⟩
  | accessError | registerWrite => exact ⟨_, rfl, access_ref _ _ _ _ _ _⟩
  | deviceReset | laneConfigWrite | laneEnable | laneDisable | linjWrite | tgcfgWrite | rpostWrite
  | routeConfigWrite | windowWrite | crbaseWrite | completionRingEnable | completionRingDisable | crconsWrite
  | bshedWrite | bstatWrite | evpop | complClear | cmpmodWrite | commandIssue =>
    exact ⟨_, rfl, hostWriteReg_ref _ _ _⟩
  | syncMissing => exact ⟨_, rfl, syncMissingAt_ref _⟩
  | nop | matchWrite | laneResync | counterSnapshot | storeRead | storeWrite | storeLock | storeReload
  | quiesce | unquiesce =>
    exact ⟨_, rfl, (runCmd_keepsClock fun c => by simp [runNop]).ref⟩
  | routeArm | routeStart | routeStop | routeAbort | routeResume | routeFlush =>
    exact ⟨_, rfl, (runCmd_keepsClock fun c => runRouteCmd_keepsClock (fun r => by simp) c).ref⟩
  | descriptorFetch | bufferOpen | recordPlace | payloadWrite | lingerExpiry | bufferCloseStop
  | bufferCloseQuiesce | completionEntry | cancelEntry | backlogDrain =>
    exact ⟨_, rfl, (engineStep_keepsClock (by simp)).ref⟩
  | routeDrained | routeAbortDone | quiesced =>
    exact ⟨_, rfl, (engineStep_keepsClock (.ite (by simp))).ref⟩
  | interruptMessage => exact ⟨_, rfl, by dsimp only; split <;> simp⟩
  | _ => exact ⟨_, rfl, by simp⟩

/-- Settles O10: a command keeps the counter (`exec_ref`), and its turn counts the tick that passes before it comes. -/
theorem onlyEpochLoadsSetTheCounter : Obligations.OnlyEpochLoadsSetTheCounter := by
  intro i s t hi hexec
  obtain ⟨u, hu, ref⟩ := exec_ref hi s
  obtain rfl : u = t := Host.Outcome.next.inj (hu.symm.trans hexec)
  exact ref.trans (arrive_ref i s)

end Sys2Proof.Machine
end

section
/-! SUPPORT. The SYNC filter and the actions of an active SYNC edge (R131, R132, R134, R135, R142, R172): the statement
O33. -/

namespace Sys2Proof.Machine

/-! ### The SYNC filter (R131, R172) -/

section
variable {level : Bool} {s : State}

/-- A level that is the filtered one, or whose opposite was the sample before it, is no transition. -/
theorem filter_noTransition {f : Filter}
    (h : f.level = some level ∨ f.level = some (!level) ∧ f.last = some (!level)) :
    f.level ≠ none ∧ ¬f.accepts level = true := by
  rw [filter_accepts_iff]
  rcases h with same | ⟨other, last⟩
  · refine ⟨same ▸ Option.some_ne_none _, fun ⟨other, _⟩ => ?_⟩
    exact Bool.not_ne_self level (Option.some.inj (same.symm.trans other)).symm
  · exact ⟨other ▸ Option.some_ne_none _, fun ⟨_, moved⟩ => moved last⟩

/-- The SYNC filter takes a level. -/
def State.takeSync (s : State) (level : Bool) : State :=
  { s with tb := { s.tb with filter := s.tb.filter.take level } }

theorem sampleSync_loading (h : s.ctl.loading = true) : sampleSync level s = s := if_pos h

theorem sampleSync_first (hrun : s.ctl.loading = false) (h : s.tb.filter.level = none) :
    sampleSync level s = s.takeSync level :=
  (if_neg (Bool.eq_false_iff.mp hrun)).trans (if_pos h)

theorem sampleSync_accepted (hrun : s.ctl.loading = false) (h : s.tb.filter.accepts level = true) :
    sampleSync level s = acceptSync level s := by
  have known : s.tb.filter.level ≠ none := by
    rw [((filter_accepts_iff _ _).mp h).1]
    exact Option.some_ne_none _
  exact (if_neg (Bool.eq_false_iff.mp hrun)).trans ((if_neg known).trans (if_pos h))

theorem sampleSync_noTransition (h : s.tb.filter.level ≠ none) (h' : ¬s.tb.filter.accepts level = true) :
    sampleSync level s = s := by
  unfold sampleSync
  rw [if_neg h, if_neg h', ite_self]

theorem acceptSync_acts (h : s.tb.syncFalling = !level) : acceptSync level s = actSync (s.takeSync level) :=
  if_pos (by rw [syncActive, h]; exact Bool.not_bne_self level)

theorem acceptSync_silent (h : s.tb.syncFalling = level) : acceptSync level s = s.takeSync level :=
  if_neg (by rw [syncActive, h, bne_self_eq_false]; exact Bool.false_ne_true)

end

/-! ### The actions of an active edge (R132) -/

/-- The counter once an active SYNC edge has made the load that is armed (R135). -/
def Timebase.syncTime (t : Timebase) : DWord := if t.armed then t.epoch else t.ref

/-- The events of an active edge, posted one after the other with the counter at the edge's time: first that of its load
(R132, step 1). -/
def syncLoaded (s : State) : State :=
  if s.tb.armed then
    post 0x71 noSource (loWord s.tb.ref) (hiWord s.tb.ref) { s with tb := { s.tb with ref := s.tb.syncTime } }
  else s

/-- Then that of the edge, if SYNCEVT asks for it (R132, step 4). -/
def syncTold (s : State) : State :=
  if s.tb.syncEvt then post 0x70 noSource (loWord s.tb.syncTime) (hiWord s.tb.syncTime) (syncLoaded s) else syncLoaded s

/-- Then that of a SYNC that was absent (R132, step 5). -/
def syncRestored (s : State) : State :=
  if s.tb.present then syncTold s
  else post 0x73 noSource (loWord s.tb.syncTime) (hiWord s.tb.syncTime) (syncTold s)

theorem syncLoaded_ref (s : State) : (syncLoaded s).tb.ref = s.tb.syncTime := by
  unfold syncLoaded
  cases h : s.tb.armed
  · simp only [Bool.false_eq_true, if_false, Timebase.syncTime, h]
  · rfl

theorem syncTold_ref (s : State) : (syncTold s).tb.ref = s.tb.syncTime := by
  unfold syncTold
  split <;> exact syncLoaded_ref s

/-- None of them tells the level that the filter takes. -/
theorem syncRestored_takeSync (level : Bool) (s : State) :
    syncRestored (s.takeSync level) = (syncRestored s).takeSync level := by
  have loaded : syncLoaded (s.takeSync level) = (syncLoaded s).takeSync level := by
    unfold syncLoaded
    rw [apply_ite (State.takeSync · level)]
    rfl
  have told : syncTold (s.takeSync level) = (syncTold s).takeSync level := by
    unfold syncTold
    rw [loaded, apply_ite (State.takeSync · level)]
    rfl
  unfold syncRestored
  rw [told, apply_ite (State.takeSync · level)]
  rfl

theorem armedLoad_eq (s : State) :
    armedLoad s =
      { s with tb := { s.tb with ref := s.tb.syncTime, armed := false }, ev := (syncLoaded s).ev } := by
  unfold armedLoad syncLoaded Timebase.syncTime
  cases h : s.tb.armed
  · have disarmed : ({ s.tb with armed := false } : Timebase) = s.tb := by rw [← h]
    exact (congrArg (fun tb => { s with tb := tb }) disarmed).symm
  · rfl

/-- The watchdog restarts, and an absent SYNC is restored (R132, step 5). -/
def restoreSync (u : State) : State :=
  let u := { u with tb := { u.tb with wdog := 0 } }
  if u.tb.present then u
  else
    post 0x73 noSource (loWord u.tb.syncCap) (hiWord u.tb.syncCap)
      { u with tb := { u.tb with present := true } }

theorem restoreSync_eq {s u : State} (hcap : u.tb.syncCap = s.tb.syncTime) (href : u.tb.ref = s.tb.syncTime)
    (hpresent : u.tb.present = s.tb.present) (hev : u.ev = (syncTold s).ev) :
    restoreSync u = { u with tb := { u.tb with wdog := 0, present := true }, ev := (syncRestored s).ev } := by
  unfold restoreSync syncRestored
  rw [← hpresent]
  dsimp only
  cases h : u.tb.present
  · simp only [Bool.false_eq_true, if_false, post_eq, syncTold_ref, hcap, href, hev]
  · have present : ({ u.tb with wdog := 0, present := true } : Timebase) = { u.tb with wdog := 0 } := by rw [← h]
    simp only [if_true, present, ← hev]

/-- The state once an active edge has made its load, and its time has been captured and flagged (R132, steps 1 to 3). -/
def syncCaptured (s : State) : State :=
  { s with
    tb := { s.tb with ref := s.tb.syncTime, armed := false, syncCap := s.tb.syncTime }
    ev := (syncLoaded s).ev, irq := { s.irq with sync := true } }

theorem syncCaptured_told (s : State) :
    (if s.tb.syncEvt then post 0x70 noSource (loWord s.tb.syncTime) (hiWord s.tb.syncTime) (syncCaptured s)
      else syncCaptured s) = { syncCaptured s with ev := (syncTold s).ev } := by
  unfold syncTold
  split
  · simp only [post_eq, syncLoaded_ref]
    rfl
  · rfl

/-- The six actions of an active edge as one change of the state. -/
theorem actSync_eq (s : State) :
    actSync s =
      { s with
        tb :=
          { s.tb with
            ref := s.tb.syncTime, armed := false, syncCap := s.tb.syncTime, present := true, wdog := 0 }
        ev := (syncRestored s).ev
        irq := { s.irq with sync := true }
        trigs := (pulseSource 1 s).trigs } := by
  have acts : actSync s = pulseSource 1 (restoreSync
      (if s.tb.syncEvt then post 0x70 noSource (loWord s.tb.syncTime) (hiWord s.tb.syncTime) (syncCaptured s)
        else syncCaptured s)) := by
    unfold actSync
    rw [armedLoad_eq]
    rfl
  have restored := restoreSync_eq (s := s) (u := { syncCaptured s with ev := (syncTold s).ev }) rfl rfl rfl rfl
  rw [acts, syncCaptured_told, restored]
  rfl

/-- Settles O33: the filter by what it has seen, and an active edge by its actions in one change (`actSync_eq`). -/
theorem syncEdgeActsInOrder : Obligations.SyncEdgeActsInOrder := by
  intro rising s taken both accepts
  have acts : both (sampleSync rising s) := ⟨acts_inTurn (fun _ => rfl) s, acts_inTurn (fun _ => rfl) s⟩
  have accepts' : accepts → s.tb.filter.accepts rising = true := (filter_accepts_iff _ _).mpr
  refine ⟨fun hrun haccepts hactive => ?edge, fun hrun h => ?moves, fun h => ?nothing⟩
  case edge =>
    rw [sampleSync_accepted hrun (accepts' haccepts), acceptSync_acts hactive, actSync_eq, syncRestored_takeSync] at acts
    exact acts
  case moves =>
    rcases h with first | ⟨haccepts, silent⟩
    · rwa [sampleSync_first hrun first] at acts
    · rwa [sampleSync_accepted hrun (accepts' haccepts), acceptSync_silent silent] at acts
  case nothing =>
    rcases h with loading | unmoved
    · rwa [sampleSync_loading loading] at acts
    · obtain ⟨known, stays⟩ := filter_noTransition unmoved
      rwa [sampleSync_noTransition known stays] at acts

end Sys2Proof.Machine
end

section
/-! SUPPORT. COUNTER_SNAPSHOT of a lane, of a route and of everything, and EPOCH_LOAD_NOW (R133, R135, R164): the
statement O47. -/

namespace Sys2Proof.Machine

/-! ### Targets (TABLE 10-1) -/

theorem targetOk_snapLane (n : Fin 4) : targetOk 0x30 (BitVec.ofNat 8 n.val) = true := by
  revert n; decide

theorem targetOk_snapRoute (r : Fin 16) : targetOk 0x30 (BitVec.ofNat 8 (16 + r.val)) = true := by
  revert r; decide

theorem snapCounters_lane (n : Fin 4) (clear : Bool) (s : State) :
    snapCounters (BitVec.ofNat 8 n.val).toNat clear s = snapLane clear n s := by
  have number : (BitVec.ofNat 8 n.val).toNat = n.val := by revert n; decide
  rw [number, snapCounters, if_pos n.isLt, Fin.ofNat_val_eq_self]

theorem snapCounters_route (r : Fin 16) (clear : Bool) (s : State) :
    snapCounters (BitVec.ofNat 8 (16 + r.val)).toNat clear s = snapRoute clear r s := by
  have number : (BitVec.ofNat 8 (16 + r.val)).toNat = 16 + r.val := by revert r; decide
  rw [number, snapCounters, if_neg (by omega), if_pos (by omega), Nat.add_sub_cancel_left, Fin.ofNat_val_eq_self]

/-! ### Copy and clear (R164) -/

/-- The lane with its counters cleared, if the snapshot asks for it. -/
def Lane.cleared (l : Lane) (clear : Bool) : Lane := { l with ctr := if clear then Vector.replicate 8 0 else l.ctr }

/-- The route with its counters cleared, if the snapshot asks for it. -/
def Route.cleared (t : Route) (clear : Bool) : Route :=
  { t with ctr := if clear then Vector.replicate 12 0 else t.ctr }

/-- The state with these lanes, and these copies of the lanes' counters in the snapshot area. -/
def State.withLaneCopies (s : State) (p : Vector Lane 4 × Vector (Vector Word 8) 4) : State :=
  { s with lanes := p.1, cmd := { s.cmd with snapLanes := p.2 } }

/-- The state with these routes, and these copies of the routes' counters in the snapshot area. -/
def State.withRouteCopies (s : State) (p : Vector Route 16 × Vector (Vector Word 12) 16) : State :=
  { s with routes := p.1, cmd := { s.cmd with snapRoutes := p.2 } }

/-- One entry of a row of units copied to its place in the snapshot, and then changed. -/
def copyAt {α β : Type} {k : Nat} (copy : α → β) (change : α → α) (p : Vector α k × Vector β k) (i : Fin k) :
    Vector α k × Vector β k :=
  (p.1.set i.val (change p.1[i.val]), p.2.set i.val (copy p.1[i.val]))

/-- Entries copied one after the other are each copied as they stood and each changed. -/
theorem foldl_copyAt {α β : Type} {k : Nat} (copy : α → β) (change : α → α) {is : List (Fin k)} (his : is.Nodup)
    (p : Vector α k × Vector β k) (j : Fin k) :
    (is.foldl (copyAt copy change) p).1[j.val] = (if j ∈ is then change p.1[j.val] else p.1[j.val])
      ∧ (is.foldl (copyAt copy change) p).2[j.val] = (if j ∈ is then copy p.1[j.val] else p.2[j.val]) := by
  induction is generalizing p with
  | nil => exact ⟨rfl, rfl⟩
  | cons i is ih =>
    obtain ⟨hi, his⟩ := List.nodup_cons.mp his
    obtain ⟨changed, copied⟩ := ih his (copyAt copy change p i)
    rw [List.foldl_cons, changed, copied]
    by_cases hj : j = i
    · subst hj
      simp [copyAt, hi]
    · have apart : i.val ≠ j.val := fun e => hj (Fin.ext e.symm)
      simp [copyAt, hj, apart]

theorem snapLane_withLaneCopies (clear : Bool) (n : Fin 4) (s : State) (p : Vector Lane 4 × Vector (Vector Word 8) 4) :
    snapLane clear n (s.withLaneCopies p)
      = s.withLaneCopies (copyAt Lane.ctr (·.cleared clear) p n) := by
  cases clear with
  | false =>
    have kept : p.1.set n.val (p.1[n.val].cleared false) = p.1 := Vector.set_getElem_self _
    rw [copyAt, kept]
    rfl
  | true => rfl

theorem snapRoute_withRouteCopies (clear : Bool) (r : Fin 16) (s : State)
    (p : Vector Route 16 × Vector (Vector Word 12) 16) :
    snapRoute clear r (s.withRouteCopies p)
      = s.withRouteCopies (copyAt Route.ctr (·.cleared clear) p r) := by
  cases clear with
  | false =>
    have kept : p.1.set r.val (p.1[r.val].cleared false) = p.1 := Vector.set_getElem_self _
    rw [copyAt, kept]
    rfl
  | true => rfl

/-- The counters of every lane and every route are copied, and each is cleared if the snapshot asks for it. -/
theorem snapCounters_all (clear : Bool) (s : State) :
    ∃ lanes routes, snapCounters 0xFF clear s = (s.withLaneCopies lanes).withRouteCopies routes
      ∧ (∀ n : Fin 4, lanes.1[n.val] = (s.lane n).cleared clear ∧ lanes.2[n.val] = (s.lane n).ctr)
      ∧ ∀ r : Fin 16, routes.1[r.val] = (s.route r).cleared clear ∧ routes.2[r.val] = (s.route r).ctr := by
  let lanes := allLanes.foldl (copyAt Lane.ctr (·.cleared clear)) (s.lanes, s.cmd.snapLanes)
  let routes := allRoutes.foldl (copyAt Route.ctr (·.cleared clear)) (s.routes, s.cmd.snapRoutes)
  refine ⟨lanes, routes, ?folds, fun n => ?lane, fun r => ?route⟩
  case folds =>
    have snapped : allLanes.foldl (fun s n => snapLane clear n s) s = s.withLaneCopies lanes :=
      List.foldl_hom (init := (s.lanes, s.cmd.snapLanes)) s.withLaneCopies
        fun p n => snapLane_withLaneCopies clear n s p
    have counted : snapCounters 0xFF clear s
        = allRoutes.foldl (fun s r => snapRoute clear r s) (s.withLaneCopies lanes) := by
      rw [← snapped]
      rfl
    rw [counted]
    exact List.foldl_hom (init := (s.routes, s.cmd.snapRoutes)) (s.withLaneCopies lanes).withRouteCopies
      fun p r => snapRoute_withRouteCopies clear r (s.withLaneCopies lanes) p
  case lane =>
    have distinct : allLanes.Nodup := by decide
    have read := foldl_copyAt Lane.ctr (·.cleared clear) distinct (s.lanes, s.cmd.snapLanes) n
    rwa [if_pos (mem_allLanes n), if_pos (mem_allLanes n)] at read
  case route =>
    have distinct : allRoutes.Nodup := by decide
    have read := foldl_copyAt Route.ctr (·.cleared clear) distinct (s.routes, s.cmd.snapRoutes) r
    rwa [if_pos (mem_allRoutes r), if_pos (mem_allRoutes r)] at read

/-! ### The commands -/

/-- The record of the snapshot in the command port, and the command's result (R164). -/
theorem runSnapshot_of_counters {c : Cmd} {rest : List Cmd} {s u : State} (hready : Ready s c rest)
    (hu : snapCounters c.target.toNat (c.arg0.getLsbD 0) s = u) (hfifo : u.cmd.fifo = s.cmd.fifo)
    (hbusy : u.cmd.busy = s.cmd.busy) (hctl : u.ctl = s.ctl) :
    runSnapshot c s =
      { u with
        cmd :=
          { u.cmd with
            fifo := rest, snapTime := u.tb.ref
            snapInfo := packWord [(c.target.toNat, 0), (bit (c.arg0.getLsbD 0), 8), (1, 31)] }
        ev := (post 0x10 c.target c.detail (loWord u.tb.ref) u).ev } := by
  subst hu
  obtain ⟨head, idle, live⟩ := hready
  let u := snapCounters c.target.toNat (c.arg0.getLsbD 0) s
  let noted : State :=
    { u with
      cmd :=
        { u.cmd with
          snapTime := u.tb.ref
          snapInfo := packWord [(c.target.toNat, 0), (bit (c.arg0.getLsbD 0), 8), (1, 31)] } }
  have ready : Ready noted c rest := ⟨hfifo.trans head, hbusy.trans idle, (congrArg Control.resetBusy hctl).trans live⟩
  have run : runSnapshot c s = endCmd c .ok (loWord u.tb.ref) noted := rfl
  rw [run, endCmd_ready _ _ ready]
  rfl

/-- A COUNTER_SNAPSHOT with a good target that is ready to start is carried out. -/
theorem acts_counterSnapshot {c : Cmd} {rest : List Cmd} {s : State} (hready : Ready s c rest) (hop : c.op = 0x30)
    (htarget : targetOk 0x30 c.target = true) : Acts .counterSnapshot s (runSnapshot c s) := by
  have act : Acts .counterSnapshot s (runCmd 0x30 runSnapshot s) := acts_inTurn (fun _ => rfl) s
  rwa [runCmd_ready _ hready hop, hop, if_pos htarget] at act

/-- Settles O47: the command step by `runCmd_ready`, the snapshot by what its target copies (`snapCounters_lane`,
`snapCounters_route`, `snapCounters_all`). -/
theorem snapshotAndEpochLoad : Obligations.SnapshotAndEpochLoad := by
  refine ⟨?single, fun c rest s hready hop htarget => ?all⟩
  case' single =>
    intro c rest s hready clear done ev
    refine ⟨fun n hop htarget => ?lane, fun r hop htarget => ?route, fun hop htarget => ?epoch⟩
  case lane =>
    have act := acts_counterSnapshot hready hop (htarget ▸ targetOk_snapLane n)
    have counters : snapCounters c.target.toNat clear s
        = s.withLaneCopies (copyAt Lane.ctr (·.cleared clear) (s.lanes, s.cmd.snapLanes) n) := by
      rw [htarget, snapCounters_lane]
      exact snapLane_withLaneCopies clear n s (s.lanes, s.cmd.snapLanes)
    rw [runSnapshot_of_counters hready counters rfl rfl rfl] at act
    exact act
  case route =>
    have act := acts_counterSnapshot hready hop (htarget ▸ targetOk_snapRoute r)
    have counters : snapCounters c.target.toNat clear s
        = s.withRouteCopies (copyAt Route.ctr (·.cleared clear) (s.routes, s.cmd.snapRoutes) r) := by
      rw [htarget, snapCounters_route]
      exact snapRoute_withRouteCopies clear r s (s.routes, s.cmd.snapRoutes)
    rw [runSnapshot_of_counters hready counters rfl rfl rfl] at act
    exact act
  case epoch =>
    have act : Acts .epochLoadNow s (runCmd 0x38 runEpochLoad s) := acts_inTurn (fun _ => rfl) s
    have loaded : Ready (loadEpoch s) c rest := hready
    have known : targetOk 0x38 0 = true := rfl
    rw [runCmd_ready _ hready hop, hop, htarget, if_pos known, runEpochLoad, endCmd_ready _ _ loaded] at act
    exact ⟨_, act, rfl, rfl, rfl⟩
  case all =>
    have act := acts_counterSnapshot hready hop (htarget ▸ rfl)
    obtain ⟨lanes, routes, counters, lane_n, route_r⟩ := snapCounters_all (c.arg0.getLsbD 0) s
    have counters : snapCounters c.target.toNat (c.arg0.getLsbD 0) s
        = (s.withLaneCopies lanes).withRouteCopies routes := by
      rw [htarget]
      exact counters
    rw [runSnapshot_of_counters hready counters rfl rfl rfl] at act
    refine ⟨_, act, fun n => ?_, fun r => ?_, rfl, rfl, rfl⟩
    · obtain ⟨lane, copy⟩ := lane_n n
      exact ⟨copy, congrArg Lane.ctr lane⟩
    · obtain ⟨route, copy⟩ := route_r r
      exact ⟨copy, congrArg Route.ctr route⟩

end Sys2Proof.Machine
end

section
/-! SUPPORT. The event queue: what it does with one generated event and what EVPOP takes from it (R147, R148, R150); the
statements O15 and O40. -/

namespace Sys2Proof.Machine

/-- How many entries are held at most when an event of this cause is still queued (R148). -/
def eventRoom (cause : Byte) : Nat := if essential cause then Config.essentialBudget else Config.routineBudget

theorem eventRoom_le (cause : Byte) : eventRoom cause ≤ 63 := by
  unfold eventRoom
  split <;> decide

/-! ### One event and the queue (R148) -/

/-- The loss marker that stands for one lost event. -/
def Event.lossMarker (e : Event) : Event :=
  { cause := 0xF0, source := noSource, seq := e.seq, time := e.time, a := 1
    b := BitVec.ofNat 32 (2 ^ eventClass e.cause) }

/-- A loss marker that takes one more lost event. -/
def Event.absorb (m e : Event) : Event :=
  { m with
    a := if m.a = 0xFFFFFFFF#32 then m.a else m.a + 1
    b := m.b ||| BitVec.ofNat 32 (2 ^ eventClass e.cause) }

/-- There is room for the event. -/
theorem enqueueEvent_room {q : List Event} {e : Event} (h : q.length < eventRoom e.cause) :
    enqueueEvent q e = q ++ [e] := if_pos h

/-- There is no room for the event, so it is lost: the newest entry takes it if that is a loss marker, and else a new
marker does if the queue holds less than 64 entries. -/
theorem enqueueEvent_full {q : List Event} {m e : Event} (h : eventRoom e.cause ≤ (q ++ [m]).length) :
    enqueueEvent (q ++ [m]) e
      = if m.isMarker = true then q ++ [m.absorb e]
        else if (q ++ [m]).length < 64 then q ++ [m, e.lossMarker] else q ++ [m] := by
  have full : ¬ (q ++ [m]).length < eventRoom e.cause := Nat.not_lt.mpr h
  rw [enqueueEvent, ← eventRoom, if_neg full, List.getLast?_concat, List.dropLast_concat, List.append_assoc]
  rfl

/-- Settles O15: the event finds room (`enqueueEvent_room`), or it is lost (`enqueueEvent_full`). -/
theorem postQueuesMergesOrMarks : Obligations.PostQueuesMergesOrMarks := by
  intro cause src a b s e room cls
  refine ⟨rfl, fun hroom => enqueueEvent_room hroom, fun q m hfull hq hmarker => ?merge,
    fun q m hfull hdepth hq hmarker => ?mark⟩
  all_goals
    rw [hq] at hfull
    rw [post_eq, hq]
    refine (enqueueEvent_full (e := e) hfull).trans ?_
  case merge => exact if_pos hmarker
  case mark =>
    rw [hq] at hdepth
    rw [if_neg (Bool.not_eq_true _ ▸ hmarker), if_pos hdepth]
    rfl

/-! ### The bounds of the queue (R148) -/

/-- The queue is within its bounds: at most 64 entries, and a 64th only as a loss marker (R148). -/
def Events.fits (v : Events) : Prop :=
  v.queue.length ≤ 64 ∧ (v.queue.length = 64 → ∃ m, v.queue.getLast? = some m ∧ m.isMarker = true)

theorem eventsOk_iff_fits (s : State) : EventsOk s ↔ s.ev.fits := Iff.rfl

/-- A queue with an entry left below its depth is within its bounds, whatever its entries are. -/
theorem fits_of_lt {v : Events} (h : v.queue.length < 64) : v.fits := ⟨h.le, fun full => absurd full h.ne⟩

/-- An event leaves a queue within its bounds just where it was within them: one beyond them grows no longer. -/
theorem enqueueEvent_fits (q : List Event) (n k : BitVec 16) (e : Event) :
    Events.fits ⟨enqueueEvent q e, n⟩ ↔ Events.fits ⟨q, k⟩ := by
  refine ⟨fun h => ?_, fun ⟨bound, marker⟩ => enqueueEvent_bound q e bound marker⟩
  rcases Nat.lt_or_ge q.length 64 with below | deep
  · exact fits_of_lt below
  · obtain rfl | ⟨p, m, rfl⟩ := List.eq_nil_or_concat' q
    · cases deep
    · have full : eventRoom e.cause ≤ (p ++ [m]).length := (eventRoom_le _).trans (Nat.le_of_lt deep)
      rw [enqueueEvent_full full, if_neg (Nat.not_lt.mpr deep)] at h
      split at h
      next hmarker => exact ⟨by simpa using h.1, fun _ => ⟨m, List.getLast?_concat, hmarker⟩⟩
      next => exact h

@[simp] theorem post_fits (c b : Byte) (x y : Word) (s : State) : (post c b x y s).ev.fits ↔ s.ev.fits :=
  enqueueEvent_fits _ _ _ _

/-! ### EVPOP (R150) -/

/-- A queue that loses its head stays within its bounds (R150). -/
theorem popEvent_fits {s : State} (h : s.ev.fits) : (popEvent s).ev.fits := by
  obtain ⟨bound, -⟩ := h
  refine fits_of_lt ?_
  rw [popEvent, List.length_drop]
  omega

/-- Settles O40: an EVPOP write drops the head of the queue, of which an empty one has none. -/
theorem evpopRemovesTheHead : Obligations.EvpopRemovesTheHead := by
  intro data s hload hbusy
  have act : Acts (.evpop data) s (popEvent s) := acts_hostWrite (g := .evpop) (fun _ => rfl) hload hbusy
  rw [popEvent] at act
  refine ⟨fun e rest hq => ?_, fun hq => ?_⟩ <;> rw [hq] at act
  · exact act
  · have same : ({ s with ev := { s.ev with queue := [] } } : State) = s := by rw [← hq]
    rwa [List.drop_nil, same] at act

end Sys2Proof.Machine
end

section
/-! SUPPORT. What keeps the event queue within its bounds (R148) and leaves the command FIFO and SLB as they are (R159,
R168): all but EVPOP, CMDISSUE, the ends of commands, STORE_LOCK and the resets. One lemma per operation, in the order
of the model; where an operation keeps the units, it speaks of the event queue alone. -/

namespace Sys2Proof.Machine

/-- The event queue of t is within its bounds as that of s is, and the command FIFO and SLB are the same. -/
@[simp] abbrev KeepsQueues (t s : State) : Prop :=
  (t.ev.fits ↔ s.ev.fits) ∧ t.cmd.fifo = s.cmd.fifo ∧ t.store.slb = s.store.slb

theorem KeepsQueues.refl (s : State) : KeepsQueues s s := ⟨.rfl, rfl, rfl⟩

theorem KeepsQueues.trans {u t s : State} (h : KeepsQueues u t) (k : KeepsQueues t s) : KeepsQueues u s :=
  ⟨h.1.trans k.1, h.2.1.trans k.2.1, h.2.2.trans k.2.2⟩

/-- A row of operations that each keep the queues keeps them. -/
theorem foldl_keepsQueues {α : Type} {f : State → α → State} (h : ∀ s a, KeepsQueues (f s a) s) (l : List α)
    (s : State) : KeepsQueues (l.foldl f s) s := by
  induction l generalizing s with
  | nil => exact .refl s
  | cons a l ih => exact (ih (f s a)).trans (h s a)

/-! ### Release and queues -/

@[simp] theorem shedTest_fits (b : Bool) (s : State) : (shedTest b s).ev.fits ↔ s.ev.fits := by
  unfold shedTest
  split
  · cases b <;> simp
  · rfl

@[simp] theorem releaseChain_fits (r : Fin 16) (c : List Nat) (s : State) :
    (releaseChain r c s).ev.fits ↔ s.ev.fits := by
  simp [releaseChain]

@[simp] theorem loseMarks_fits (n : Fin 4) (m : Bool) (s : State) : (loseMarks n m s).ev.fits ↔ s.ev.fits := by
  cases m <;> simp [loseMarks]

@[simp] theorem dropHead_fits (r : Fin 16) (lost : Bool) (s : State) : (dropHead r lost s).ev.fits ↔ s.ev.fits := by
  unfold dropHead
  split <;> simp

/-! ### Route moves -/

@[simp] theorem startRoute_fits (r : Fin 16) (line : Option (Fin 4)) (s : State) :
    (startRoute r line s).ev.fits ↔ s.ev.fits := by
  simp [startRoute, enterRunning]

@[simp] theorem triggerRoute_fits (n : Fin 4) (t : Trig) (s : State) (r : Fin 16) :
    (triggerRoute n t s r).ev.fits ↔ s.ev.fits := by
  unfold triggerRoute
  split
  · split <;> simp
  · split <;> simp [enterStopping]
  · rfl

/-! ### Classification and admission -/

@[simp] theorem storeBody_fits (n : Fin 4) (k : Nat) (bytes : List Byte) (s : State) :
    (storeBody n k bytes s).ev.fits ↔ s.ev.fits := by
  unfold storeBody
  split
  · split <;> rfl
  · rfl

@[simp] theorem dropFrame_fits (n : Fin 4) (s : State) : (dropFrame n s).ev.fits ↔ s.ev.fits := by
  unfold dropFrame
  split <;> simp

@[simp] theorem refuse_fits (n : Fin 4) (r : Fin 16) (c : RouteCtr) (s : State) :
    (refuse n r c s).ev.fits ↔ s.ev.fits := by
  simp [refuse]

@[simp] theorem evictOldest_fits (r : Fin 16) (s : State) : (evictOldest r s).ev.fits ↔ s.ev.fits := by
  unfold evictOldest
  split <;> simp

@[simp] theorem evictWhile_fits (more : State → Bool) (r : Fin 16) (k : Nat) (s : State) :
    (evictWhile more r k s).ev.fits ↔ s.ev.fits := by
  induction k generalizing s with
  | zero => rfl
  | succ k ih =>
    unfold evictWhile
    split
    · exact (ih _).trans (evictOldest_fits r s)
    · rfl

@[simp] theorem quotaEvict_fits (r : Fin 16) (B : Nat) (s : State) : (quotaEvict r B s).ev.fits ↔ s.ev.fits := by
  unfold quotaEvict
  split <;> simp

@[simp] theorem retainEvict_fits (r : Fin 16) (s : State) : (retainEvict r s).ev.fits ↔ s.ev.fits := by
  unfold retainEvict
  split <;> simp

@[simp] theorem refuseQuota_fits (n : Fin 4) (r : Fin 16) (B : Nat) (s : State) :
    (refuseQuota n r B s).ev.fits ↔ s.ev.fits := by
  unfold refuseQuota
  split <;> simp

@[simp] theorem refuseThreshold_fits (n : Fin 4) (r : Fin 16) (B : Nat) (s : State) :
    (refuseThreshold n r B s).ev.fits ↔ s.ev.fits := by
  unfold refuseThreshold
  split
  · split <;> simp
  · split <;> simp

@[simp] theorem countBudget_fits (n : Fin 4) (r : Fin 16) (s : State) : (countBudget n r s).ev.fits ↔ s.ev.fits := by
  unfold countBudget
  dsimp only
  split
  · split <;> simp [enterStopping]
  · rfl

@[simp] theorem reserve_fits (n : Fin 4) (t : Ticket) (B : Nat) (s : State) :
    (reserve n t B s).ev.fits ↔ s.ev.fits := by
  unfold reserve
  cases (s.route t.route).high <;> simp [takeBlocks]

@[simp] theorem admitFrame_fits (n : Fin 4) (L : Nat) (t : Ticket) (s : State) :
    (admitFrame n L t s).ev.fits ↔ s.ev.fits := by
  unfold admitFrame
  dsimp only
  generalize blockNeed _ = B
  cases gateRefusal s t.route with
  | some c => simp
  | none =>
    dsimp only
    split
    · simp
    · split <;> simp

@[simp] theorem classify_fits (n : Fin 4) (L : Nat) (head : List Byte) (s : State) :
    (classify n L head s).ev.fits ↔ s.ev.fits := by
  unfold classify
  dsimp only
  split
  · split <;> simp
  · split <;> simp

@[simp] theorem seqCheck_fits (n : Fin 4) (t : Ticket) (v : FcsVerdict) (s : State) :
    (seqCheck n t v s).1.ev.fits ↔ s.ev.fits := by
  unfold seqCheck
  dsimp only
  split
  · rfl
  · split <;> simp

@[simp] theorem finalize_fits (n : Fin 4) (f : FrameCtx) (t : Ticket) (L : Nat) (v : FcsVerdict) (s : State) :
    (finalize n f t L v s).ev.fits ↔ s.ev.fits := by
  unfold finalize
  dsimp only
  split
  · simp [discardFrame, closeFrame]
  · split <;> simp [discardFrame, commitFrame, closeFrame]

/-! ### The synchronizer -/

@[simp] theorem acquireLock_fits (n : Fin 4) (s : State) : (acquireLock n s).ev.fits ↔ s.ev.fits := by
  simp [acquireLock, frameStart]

@[simp] theorem loseLock_fits (n : Fin 4) (s : State) : (loseLock n s).ev.fits ↔ s.ev.fits := by
  simp [loseLock]

@[simp] theorem syncFoundAt_fits (n : Fin 4) (s : State) : (syncFoundAt n s).ev.fits ↔ s.ev.fits := by
  unfold syncFoundAt
  dsimp only
  split
  · split
    · split <;> simp
    · simp
  · rfl

@[simp] theorem syncPositionAt_fits (n : Fin 4) (s : State) : (syncPositionAt n s).ev.fits ↔ s.ev.fits := by
  unfold syncPositionAt
  dsimp only
  split
  · split
    · split
      · split <;> simp
      · simp
    · split
      · simp [frameStart]
      · split <;> simp [frameStart]
    · split
      · simp [frameStart]
      · split <;> simp [frameStart]
    · rfl
  · rfl

@[simp] theorem lengthError_fits (n : Fin 4) (L : Int) (s : State) : (lengthError n L s).ev.fits ↔ s.ev.fits := by
  unfold lengthError
  dsimp only
  split <;> simp

@[simp] theorem headerKnown_fits (n : Fin 4) (L : Nat) (head : List Byte) (s : State) :
    (headerKnown n L head s).ev.fits ↔ s.ev.fits := by
  unfold headerKnown
  dsimp only
  split <;> simp

@[simp] theorem headerExtentAt_fits (n : Fin 4) (s : State) : (headerExtentAt n s).ev.fits ↔ s.ev.fits := by
  unfold headerExtentAt
  dsimp only
  split
  · split
    · split
      · split <;> simp
      · simp
    · rfl
  · rfl

@[simp] theorem frameEndAt_fits (n : Fin 4) (s : State) : (frameEndAt n s).ev.fits ↔ s.ev.fits := by
  unfold frameEndAt
  dsimp only
  split
  · split
    next f _ _ => cases f.fate <;> simp
    next => simp
  · rfl

@[simp] theorem flipAt_fits (n : Fin 4) (s : State) : (flipAt n s).ev.fits ↔ s.ev.fits := by
  unfold flipAt
  split <;> simp

@[simp] theorem settleSync_fits (n : Fin 4) (s : State) : (settleSync n s).ev.fits ↔ s.ev.fits := by
  simp [settleSync]

@[simp] theorem settleLane_fits (n : Fin 4) (s : State) : (settleLane n s).ev.fits ↔ s.ev.fits := by
  simp [settleLane]

@[simp] theorem flipRow_fits (n : Fin 4) (s : State) : (flipRow n s).ev.fits ↔ s.ev.fits := by
  unfold flipRow
  split <;> simp

@[simp] theorem phaseBit_fits (n : Fin 4) (b : Bool) (s : State) : (phaseBit n b s).ev.fits ↔ s.ev.fits := by
  unfold phaseBit bodyByte
  dsimp only
  split
  · rfl
  · split
    · simp
    · split
      · split <;> simp
      · simp

@[simp] theorem handBit_fits (n : Fin 4) (b : Bool) (s : State) : (handBit n b s).ev.fits ↔ s.ev.fits := by
  unfold handBit
  dsimp only
  split <;> simp

@[simp] theorem abandon_fits (n : Fin 4) (s : State) : (abandon n s).ev.fits ↔ s.ev.fits := by
  unfold abandon
  dsimp only
  split
  · rfl
  · split <;> simp

/-! ### The lane receivers -/

@[simp] theorem disableLane_fits (n : Fin 4) (s : State) : (disableLane n s).ev.fits ↔ s.ev.fits := by
  simp [disableLane]

@[simp] theorem enableLane_fits (n : Fin 4) (report : Bool) (s : State) :
    (enableLane n report s).1.ev.fits ↔ s.ev.fits := by
  unfold enableLane
  dsimp only
  split
  · simp
  · cases report <;> simp

@[simp] theorem refuseWrite_fits (report : Bool) (source : Byte) (offset : Nat) (data : Word) (s : State) :
    (refuseWrite report source offset data s).ev.fits ↔ s.ev.fits := by
  cases report <;> simp [refuseWrite]

@[simp] theorem writeLaneReg_fits (n : Fin 4) (reg : LaneReg) (data : Word) (report : Bool) (s : State) :
    (writeLaneReg n reg data report s).1.ev.fits ↔ s.ev.fits := by
  unfold writeLaneReg
  dsimp only
  split
  · split
    · split <;> simp
    · split <;> split <;> simp
  · split <;> simp

@[simp] theorem writeLinjc_fits (n : Fin 4) (data : Word) (s : State) :
    (writeLinjc n data s).ev.fits ↔ s.ev.fits := by
  unfold writeLinjc
  dsimp only
  split <;> rfl

@[simp] theorem writeLinj_fits (n : Fin 4) (data : Word) (s : State) : (writeLinj n data s).ev.fits ↔ s.ev.fits := by
  unfold writeLinj
  dsimp only
  split
  · split <;> simp
  · rfl

@[simp] theorem clockLostAt_fits (n : Fin 4) (s : State) : (clockLostAt n s).ev.fits ↔ s.ev.fits := by
  unfold clockLostAt
  split <;> simp

@[simp] theorem clockRestoredAt_fits (n : Fin 4) (s : State) : (clockRestoredAt n s).ev.fits ↔ s.ev.fits := by
  unfold clockRestoredAt
  split <;> simp

@[simp] theorem clockEdge_fits (n : Fin 4) (rising level : Bool) (s : State) :
    (clockEdge n rising level s).ev.fits ↔ s.ev.fits := by
  unfold clockEdge
  dsimp only
  split
  · split <;> simp
  · rfl

@[simp] theorem feedAt_fits (n : Fin 4) (s : State) : (feedAt n s).ev.fits ↔ s.ev.fits := by
  unfold feedAt
  dsimp only
  split
  · split <;> simp
  · rfl

/-! ### The timebase and the trigger port -/

@[simp] theorem armedLoad_keepsQueues (s : State) : KeepsQueues (armedLoad s) s := by
  unfold armedLoad
  split <;> simp [loadEpoch]

@[simp] theorem actSync_keepsQueues (s : State) : KeepsQueues (actSync s) s := by
  unfold actSync
  dsimp only
  split <;> split <;> simp

@[simp] theorem sampleSync_keepsQueues (level : Bool) (s : State) : KeepsQueues (sampleSync level s) s := by
  unfold sampleSync acceptSync
  dsimp only
  split
  · exact .refl s
  · split
    · simp
    · split
      · split <;> simp
      · exact .refl s

@[simp] theorem syncMissingAt_fits (s : State) : (syncMissingAt s).ev.fits ↔ s.ev.fits := by
  unfold syncMissingAt
  split <;> simp

@[simp] theorem periodicTickAt_keepsQueues (s : State) : KeepsQueues (periodicTickAt s) s := by
  unfold periodicTickAt
  split <;> simp

@[simp] theorem applyMarks_fits (n : Fin 4) (s : State) : (applyMarks n s).ev.fits ↔ s.ev.fits :=
  (foldl_keepsQueues (fun s k => by split <;> simp) _ s).1

@[simp] theorem applyRoutes_fits (n : Fin 4) (s : State) : (applyRoutes n s).ev.fits ↔ s.ev.fits :=
  (foldl_keepsQueues (fun s r => by simp) _ s).1

@[simp] theorem actTrigger_fits (n : Fin 4) (rising : Bool) (s : State) :
    (actTrigger n rising s).ev.fits ↔ s.ev.fits := by
  unfold actTrigger
  dsimp only
  split <;> simp

@[simp] theorem sampleTrigger_fits (n : Fin 4) (level : Bool) (s : State) :
    (sampleTrigger n level s).ev.fits ↔ s.ev.fits := by
  unfold sampleTrigger acceptTrigger
  dsimp only
  split
  · split
    · simp
    · split
      · split <;> simp
      · rfl
  · rfl

@[simp] theorem sampleInput_keepsQueues (i : Input) (level : Bool) (s : State) :
    KeepsQueues (sampleInput i level s) s := by
  cases i <;> simp [sampleInput]

@[simp] theorem writeTrig_fits (n : Fin 4) (reg : TrigReg) (data : Word) (s : State) :
    (writeTrig n reg data s).ev.fits ↔ s.ev.fits := by
  rw [writeTrig_ev]

@[simp] theorem pulseEndAt_fits (n : Fin 4) (s : State) : (pulseEndAt n s).ev.fits ↔ s.ev.fits := by
  unfold pulseEndAt
  dsimp only
  split <;> rfl

@[simp] theorem resetDoneAt_keepsQueues (s : State) : KeepsQueues (resetDoneAt s) s := by
  unfold resetDoneAt
  split <;> simp

/-! ### Host accesses -/

@[simp] theorem hostRead_keepsQueues (o : Nat) (s : State) : KeepsQueues (hostRead o s) s := by
  unfold hostRead
  dsimp only
  split <;> simp

@[simp] theorem writeRouteReg_fits (r : Fin 16) (reg : RouteReg) (data : Word) (report : Bool) (s : State) :
    (writeRouteReg r reg data report s).1.ev.fits ↔ s.ev.fits := by
  unfold writeRouteReg
  dsimp only
  split <;> simp

@[simp] theorem writeWindow_keepsQueues (w : Fin 4) (reg : WindowReg) (data : Word) (report : Bool) (s : State) :
    KeepsQueues (writeWindow w reg data report s).1 s := by
  unfold writeWindow
  split <;> simp

@[simp] theorem writeCrbase_keepsQueues (h : BaseHalf) (data : Word) (report : Bool) (s : State) :
    KeepsQueues (writeCrbase h data report s).1 s := by
  unfold writeCrbase
  split <;> simp

@[simp] theorem writeCrcfg_keepsQueues (data : Word) (report : Bool) (s : State) :
    KeepsQueues (writeCrcfg data report s).1 s := by
  unfold writeCrcfg
  dsimp only
  split
  · split
    · split <;> simp
    · simp
  · simp

@[simp] theorem writeRpost_fits (r : Fin 16) (data : Word) (s : State) :
    (writeRpost r data s).ev.fits ↔ s.ev.fits := by
  unfold writeRpost
  dsimp only
  split <;> simp

@[simp] theorem writeCrcons_keepsQueues (data : Word) (s : State) : KeepsQueues (writeCrcons data s) s := by
  unfold writeCrcons
  dsimp only
  split
  · split <;> simp
  · exact .refl s

@[simp] theorem writeIntstat_keepsQueues (data : Word) (s : State) : KeepsQueues (writeIntstat data s) s := by
  unfold writeIntstat
  dsimp only
  split <;> simp

@[simp] theorem refuseAccess_keepsQueues (offset : BitVec 12) (write : Bool) (bytes : BitVec 4) (data : Word)
    (s : State) : KeepsQueues (refuseAccess offset write bytes data s) s := by
  unfold refuseAccess
  cases write <;> simp only [Bool.false_eq_true, if_true, if_false]
  · split <;> simp
  · split <;> simp

/-! ### The delivery engine -/

/-- An engine step keeps the queues when its effect does. -/
theorem engineStep_keepsQueues {f : State → State} {s : State} (h : KeepsQueues (f s) s) :
    KeepsQueues (engineStep f s) s := by
  unfold engineStep
  split
  · exact .refl s
  · exact h

@[simp] theorem fetch_keepsQueues (r : Fin 16) (s : State) : KeepsQueues (fetch r s) s := by
  unfold fetch
  dsimp only
  split <;> simp

@[simp] theorem readDone_keepsQueues (r : Fin 16) (answer : ReadAnswer) (s : State) :
    KeepsQueues (readDone r answer s) s := by
  unfold readDone
  split
  · exact .refl s
  · split
    · split <;> exact .refl s
    · exact .refl s

@[simp] theorem readTimeout_keepsQueues (r : Fin 16) (s : State) : KeepsQueues (readTimeout r s) s := by
  unfold readTimeout timeOldRead
  dsimp only
  split
  · split <;> exact .refl s
  · split
    · split <;> exact .refl s
    · exact .refl s

@[simp] theorem openBuffer_fits (r : Fin 16) (s : State) : (openBuffer r s).ev.fits ↔ s.ev.fits := by
  unfold openBuffer
  split
  · split
    · rfl
    · split <;> simp [haltRoute]
  · rfl

@[simp] theorem takeTurn_keepsQueues (r : Fin 16) (x : Record) (b : Buffer) (s : State) :
    KeepsQueues (takeTurn r x b s) s := by
  unfold takeTurn
  split
  · simp [oversizeRecord]
  · split <;> simp [startRecord, closeBuffer]

@[simp] theorem placeTurn_keepsQueues (s : State) : KeepsQueues (placeTurn s) s := by
  unfold placeTurn
  split
  · split
    · exact .refl s
    · dsimp only
      split <;> simp
  · exact .refl s

@[simp] theorem payloadOne_keepsQueues (p : InProgress) (s : State) : KeepsQueues (payloadOne p s) s := by
  unfold payloadOne
  split
  · dsimp only
    split <;> simp [finishRecord]
  · exact .refl s

@[simp] theorem payloadLoop_keepsQueues (k : Nat) (s : State) : KeepsQueues (payloadLoop k s) s := by
  induction k generalizing s with
  | zero => exact .refl s
  | succ k ih =>
    unfold payloadLoop
    split
    · exact .refl s
    · exact (ih _).trans (payloadOne_keepsQueues _ s)

@[simp] theorem continueRecord_keepsQueues (k : Nat) (s : State) : KeepsQueues (continueRecord k s) s := by
  unfold continueRecord
  split <;> simp

@[simp] theorem tryClose_fits (due : Bool) (reason : Reason) (r : Fin 16) (s : State) :
    (tryClose due reason r s).ev.fits ↔ s.ev.fits := by
  unfold tryClose
  split
  · rfl
  · split <;> rfl

theorem postEntry_keepsQueues (e : Completion) (s : State) : KeepsQueues (postEntry e s) s := .refl s

theorem joinBacklog_keepsQueues (e : Completion) (s : State) : KeepsQueues (joinBacklog e s) s := by
  unfold joinBacklog
  dsimp only
  split <;> simp

/-- Making an entry keeps the queues when what it does to the route does. -/
theorem makeEntry_keepsQueues (e : Completion) {made : State → State} {s : State} (h : KeepsQueues (made s) s) :
    KeepsQueues (makeEntry e made s) s := by
  rcases makeEntry_cases e made s with ⟨eq, -⟩ | ⟨eq, -⟩ | ⟨eq, -⟩ <;> rw [eq]
  · exact (joinBacklog_keepsQueues e _).trans h
  · exact (postEntry_keepsQueues e _).trans h
  · exact .refl s

@[simp] theorem completeBuffer_keepsQueues (r : Fin 16) (s : State) : KeepsQueues (completeBuffer r s) s := by
  unfold completeBuffer
  split
  · split
    · split
      · exact .refl s
      · exact makeEntry_keepsQueues _ (.refl s)
    · exact .refl s
  · exact .refl s

@[simp] theorem cancelOne_keepsQueues (r : Fin 16) (s : State) : KeepsQueues (cancelOne r s) s := by
  unfold cancelOne
  split
  · exact makeEntry_keepsQueues _ (.refl s)
  · exact .refl s

@[simp] theorem drainLoop_keepsQueues (k : Nat) (s : State) : KeepsQueues (drainLoop k s) s := by
  induction k generalizing s with
  | zero => exact .refl s
  | succ k ih =>
    unfold drainLoop
    split
    · exact .refl s
    next e rest _ =>
      have posted : KeepsQueues (postEntry e { s with eng := { s.eng with backlog := rest } }) s := .refl s
      split
      · dsimp only
        split
        · simp [postEntry]
        · exact (ih _).trans posted
      · exact .refl s

@[simp] theorem closeRoute_fits (r : Fin 16) (how : Word) (s : State) : (closeRoute r how s).ev.fits ↔ s.ev.fits := by
  simp [closeRoute]

@[simp] theorem enterQuiesced_keepsQueues (s : State) : KeepsQueues (enterQuiesced s) s := by
  simp [enterQuiesced]

/-! ### Commands -/

@[simp] theorem snapCounters_keepsQueues (target : Nat) (clear : Bool) (s : State) :
    KeepsQueues (snapCounters target clear s) s := by
  have lane (s : State) (n : Fin 4) : KeepsQueues (snapLane clear n s) s := by
    cases clear <;> exact .refl s
  have route (s : State) (r : Fin 16) : KeepsQueues (snapRoute clear r s) s := by
    cases clear <;> exact .refl s
  unfold snapCounters
  split
  · exact lane s _
  · split
    · exact route s _
    · exact (foldl_keepsQueues route _ _).trans (foldl_keepsQueues lane _ _)

@[simp] theorem armRoute_fits (r : Fin 16) (s : State) : (armRoute r s).1.ev.fits ↔ s.ev.fits := by
  unfold armRoute
  split
  · split <;> rfl
  all_goals rfl

@[simp] theorem startCmd_fits (r : Fin 16) (s : State) : (startCmd r s).1.ev.fits ↔ s.ev.fits := by
  unfold startCmd
  split
  · rfl
  · split
    · split <;> simp
    all_goals simp

@[simp] theorem stopCmd_fits (r : Fin 16) (s : State) : (stopCmd r s).1.ev.fits ↔ s.ev.fits := by
  unfold stopCmd
  split
  case h_2 => split <;> rfl
  all_goals rfl

@[simp] theorem withdrawFrame_fits (r : Fin 16) (s : State) (n : Fin 4) :
    (withdrawFrame r s n).ev.fits ↔ s.ev.fits := by
  unfold withdrawFrame
  split
  · split
    · split <;> simp
    · rfl
  · rfl

@[simp] theorem discardQueue_fits (r : Fin 16) (keep k : Nat) (s : State) :
    (discardQueue r keep k s).ev.fits ↔ s.ev.fits := by
  induction k generalizing s with
  | zero => rfl
  | succ k ih =>
    have one : (discardAt r keep s).ev.fits ↔ s.ev.fits := by
      unfold discardAt
      dsimp only
      split <;> simp
    exact (ih _).trans one

@[simp] theorem enterAborting_fits (r : Fin 16) (s : State) : (enterAborting r s).ev.fits ↔ s.ev.fits := by
  have withdrawn := foldl_keepsQueues (f := withdrawFrame r) (fun s n => by simp) allLanes
    (s.modRoute r (fun t => { t with st := .aborting }))
  simpa [enterAborting, closeBuffer] using withdrawn.1

@[simp] theorem abortCmd_fits (r : Fin 16) (s : State) : (abortCmd r s).1.ev.fits ↔ s.ev.fits := by
  unfold abortCmd
  split
  case h_5 =>
    split
    · rfl
    · split <;> simp
  all_goals simp

@[simp] theorem resumeCmd_fits (r : Fin 16) (s : State) : (resumeCmd r s).1.ev.fits ↔ s.ev.fits := by
  unfold resumeCmd
  split
  · dsimp only
    split <;> rfl
  · rfl

@[simp] theorem flushCmd_fits (r : Fin 16) (s : State) : (flushCmd r s).1.ev.fits ↔ s.ev.fits := by
  unfold flushCmd
  split
  · split <;> rfl
  · rfl

/-! ### The store controller -/

@[simp] theorem recordOutcome_keepsQueues (o : LoadOutcome) (s : State) : KeepsQueues (recordOutcome o s) s := by
  cases o <;> simp [recordOutcome, postOutcome]

@[simp] theorem endBoot_keepsQueues (o : LoadOutcome) (s : State) : KeepsQueues (endBoot o s) s := by
  simp [endBoot]

@[simp] theorem bootStart_keepsQueues (s : State) : KeepsQueues (bootStart s) s := by
  unfold bootStart
  split <;> exact .refl s

/-! ### The interrupt unit -/

@[simp] theorem expireAt_keepsQueues (s : State) : KeepsQueues (expireAt s) s := by
  unfold expireAt
  split <;> exact .refl s

@[simp] theorem messageAt_keepsQueues (s : State) : KeepsQueues (messageAt s) s := by
  unfold messageAt askMessage
  dsimp only
  split
  · split <;> exact .refl s
  · exact .refl s

/-! ### The course of a tick -/

theorem passTo_keepsQueues (k : Nat) (s : State) : KeepsQueues (passTo k s) s := by
  have settled (ns : List (Fin 4)) : KeepsQueues (ns.foldl (fun u n => settleLane n u) s) s :=
    foldl_keepsQueues (fun u n => by simp) ns s
  have released (u : State) : KeepsQueues (releaseHeld u) u := by
    unfold releaseHeld
    split <;> exact .refl u
  unfold passTo
  dsimp only
  split <;> split
  · exact released s
  · exact (released _).trans (settled _)
  · exact .refl s
  · exact settled _

theorem tick_keepsQueues (s : State) : KeepsQueues (tick s) s := by
  have advanced (u : State) : KeepsQueues (advanceTimers (evaluate u)) (messageAt u) := .refl _
  exact (advanced _).trans ((messageAt_keepsQueues _).trans (passTo_keepsQueues tickEnd s))

theorem arrive_keepsQueues (c : Instr) (s : State) : KeepsQueues (arrive c s) s := by
  have passed : KeepsQueues (arrive c s) (tickFor c s) := passTo_keepsQueues _ _
  refine passed.trans ?_
  unfold tickFor
  split
  · exact .refl s
  · exact tick_keepsQueues s

end Sys2Proof.Machine
end

section
/-! SUPPORT. The bounds of the event queue, of the command FIFO and of SLB (R148, R159, R168, R175): what pops, ends a
command, issues one, locks store words or resets keeps them, and the statement O5. -/

namespace Sys2Proof.Machine

/-! ### The bounds -/

/-- If s meets the bounds of the event queue, of the command FIFO and of SLB, so does t, and SLB is not lowered. -/
structure StaysInBounds (t s : State) : Prop where
  events : s.ev.fits → t.ev.fits
  fifo : FifoOk s → FifoOk t
  slb : s.store.slb ≤ t.store.slb
  slb_le : s.store.slb ≤ 256 → t.store.slb ≤ 256

theorem StaysInBounds.refl (s : State) : StaysInBounds s s := ⟨id, id, le_rfl, id⟩

theorem StaysInBounds.trans {u t s : State} (h : StaysInBounds u t) (k : StaysInBounds t s) : StaysInBounds u s :=
  ⟨h.events ∘ k.events, h.fifo ∘ k.fifo, k.slb.trans h.slb, h.slb_le ∘ k.slb_le⟩

/-- An operation that is carried out under a condition. -/
theorem StaysInBounds.ite {p : Prop} [Decidable p] {t s : State} (h : StaysInBounds t s) :
    StaysInBounds (if p then t else s) s := by
  split
  · exact h
  · exact .refl s

/-- What keeps SLB keeps every bound if the events fit as before and the FIFO does not grow. -/
theorem StaysInBounds.of_shrinks {t s : State} (events : s.ev.fits → t.ev.fits)
    (fifo : t.cmd.fifo.length ≤ s.cmd.fifo.length) (slb : t.store.slb = s.store.slb) : StaysInBounds t s :=
  ⟨events, fifo.trans, slb.ge, slb.le.trans⟩

theorem StaysInBounds.of_keeps {t s : State} (h : KeepsQueues t s) : StaysInBounds t s := by
  obtain ⟨events, fifo, slb⟩ := h
  exact .of_shrinks events.mpr (congrArg List.length fifo).le slb

/-! ### Resets (R175 to R177) -/

/-- An empty event queue and an empty FIFO are within their bounds. -/
theorem staysInBounds_of_empty {t s : State} (events : t.ev.queue = []) (fifo : t.cmd.fifo = [])
    (slb : t.store.slb = s.store.slb) : StaysInBounds t s := by
  refine .of_shrinks (fun _ => fits_of_lt ?_) ?_ slb
  · simp [events]
  · simp [fifo]

theorem writeDevctl_staysInBounds (data : Word) (allowReset : Bool) (s : State) :
    StaysInBounds (writeDevctl data allowReset s) s := by
  unfold writeDevctl
  dsimp only
  split
  · exact staysInBounds_of_empty rfl rfl rfl
  · exact .of_keeps (.refl s)

/-! ### Host accesses and presets -/

/-- A command that is issued joins the FIFO only where it holds fewer than eight (R159). -/
theorem offerCmd_staysInBounds (c : Cmd) (s : State) : StaysInBounds (offerCmd c s) s := by
  unfold offerCmd
  split
  next room =>
    refine ⟨id, fun _ => ?_, le_rfl, id⟩
    rw [FifoOk, List.length_append]
    exact room
  next => exact .of_keeps (by simp)

/-- The write of a register, by the host or by a preset. -/
theorem writeReg_staysInBounds (report : Bool) (data : Word) (s : State) (r : Reg) :
    StaysInBounds (writeReg report data s r).1 s := by
  cases r with
  | devctl => exact writeDevctl_staysInBounds data report s
  | cmdissue => exact offerCmd_staysInBounds _ s
  | evpop => exact .of_shrinks popEvent_fits le_rfl rfl
  | _ => exact .of_keeps (by simp [writeReg, writeCmpmod, writeBshed, writeBstat])

theorem hostWriteReg_staysInBounds (r : Reg) (data : Word) (s : State) : StaysInBounds (hostWriteReg r data s) s :=
  .ite (writeReg_staysInBounds true data s r)

theorem access_staysInBounds (offset : BitVec 12) (write : Bool) (bytes : BitVec 4) (multi : Bool) (data : Word)
    (s : State) : StaysInBounds (access offset write bytes multi data s) s := by
  unfold access
  split
  · exact .of_keeps (refuseAccess_keepsQueues _ _ _ _ _)
  · split
    · unfold hostWrite
      split
      · exact hostWriteReg_staysInBounds _ data s
      · exact .refl s
    · exact .of_keeps (hostRead_keepsQueues _ _)

theorem applyPairs_staysInBounds (ps : List (Word × Word)) (s : State) : StaysInBounds (applyPairs ps s).1 s := by
  induction ps generalizing s with
  | nil => exact .refl s
  | cons p ps ih =>
    refine (ih (applyPair p s).1).trans ?_
    unfold applyPair
    split
    · exact writeReg_staysInBounds false p.2 s _
    · exact .refl s

theorem judgeList_staysInBounds (ws : List Word) (s : State) : StaysInBounds (judgeList ws s).1 s := by
  unfold judgeList
  split
  · exact .refl s
  · exact applyPairs_staysInBounds _ s

/-! ### Commands (R160, R161) -/

/-- A command that ends posts its result and leaves the FIFO. -/
theorem endCmd_staysInBounds (c : Cmd) (res : Result) (b : Word) (s : State) : StaysInBounds (endCmd c res b s) s :=
  .of_shrinks (post_fits _ _ _ _ s).mpr (by simp [endCmd]) rfl

/-- A command that ends once its effect is made. -/
theorem endCmd_staysInBounds_of {t s : State} (h : KeepsQueues t s) (c : Cmd) (res : Result) (b : Word) :
    StaysInBounds (endCmd c res b t) s := (endCmd_staysInBounds c res b t).trans (.of_keeps h)

/-- The command step, by its owner. -/
theorem runCmd_staysInBounds {op : Byte} {owner : Cmd → State → State} {s : State}
    (h : ∀ c, StaysInBounds (owner c s) s) : StaysInBounds (runCmd op owner s) s := by
  unfold runCmd
  split
  · refine .ite ?_
    split
    · exact h _
    · exact endCmd_staysInBounds _ _ _ s
  · exact .refl s

theorem runUnknown_staysInBounds (s : State) : StaysInBounds (runUnknown s) s := by
  unfold runUnknown
  split
  · split
    · exact .refl s
    · exact endCmd_staysInBounds _ _ _ s
  · exact .refl s

/-- A route command, by its effect. -/
theorem runRouteCmd_staysInBounds {act : Fin 16 → State → State × Result} {s : State}
    (h : ∀ r, KeepsQueues (act r s).1 s) (c : Cmd) : StaysInBounds (runRouteCmd act c s) s :=
  endCmd_staysInBounds_of (h c.route) c _ _

theorem runSnapshot_staysInBounds (c : Cmd) (s : State) : StaysInBounds (runSnapshot c s) s :=
  endCmd_staysInBounds_of (by simp) c _ _

theorem runMatchWrite_staysInBounds (c : Cmd) (s : State) : StaysInBounds (runMatchWrite c s) s := by
  unfold runMatchWrite
  split
  · exact endCmd_staysInBounds _ _ _ s
  · exact endCmd_staysInBounds_of (by simp) _ _ _

theorem runLaneResync_staysInBounds (c : Cmd) (s : State) : StaysInBounds (runLaneResync c s) s := by
  unfold runLaneResync
  dsimp only
  split <;> exact endCmd_staysInBounds_of (by simp) _ _ _

theorem runEpochLoad_staysInBounds (c : Cmd) (s : State) : StaysInBounds (runEpochLoad c s) s := by
  have loaded : KeepsQueues (loadEpoch s) s := .refl s
  exact endCmd_staysInBounds_of loaded c _ _

theorem runQuiesce_staysInBounds (c : Cmd) (s : State) : StaysInBounds (runQuiesce c s) s := by
  unfold runQuiesce
  split <;> exact endCmd_staysInBounds_of (by simp) _ _ _

theorem runUnquiesce_staysInBounds (c : Cmd) (s : State) : StaysInBounds (runUnquiesce c s) s := by
  unfold runUnquiesce
  split <;> exact endCmd_staysInBounds_of (by simp) _ _ _

/-! ### The store controller (R168, R169, R173, R174) -/

theorem runStoreRead_staysInBounds (c : Cmd) (s : State) : StaysInBounds (runStoreRead c s) s := by
  unfold runStoreRead
  split
  · exact endCmd_staysInBounds _ _ _ s
  · exact .of_keeps (.refl s)

theorem runStoreWrite_staysInBounds (c : Cmd) (s : State) : StaysInBounds (runStoreWrite c s) s := by
  unfold runStoreWrite
  split
  · exact endCmd_staysInBounds _ _ _ s
  · split
    · exact endCmd_staysInBounds _ _ _ s
    · exact .of_keeps (.refl s)

/-- STORE_LOCK raises SLB, to 256 at most (R173). -/
theorem runStoreLock_staysInBounds (c : Cmd) (s : State) : StaysInBounds (runStoreLock c s) s := by
  unfold runStoreLock
  dsimp only
  split
  next => exact endCmd_staysInBounds _ _ _ s
  next most =>
    split
    next => exact endCmd_staysInBounds _ _ _ s
    next raises =>
      split
      next => exact endCmd_staysInBounds _ _ _ s
      next =>
        exact (endCmd_staysInBounds _ _ _ _).trans ⟨id, id, Nat.not_lt.mp raises, fun _ => Nat.not_lt.mp most⟩

theorem runStoreReload_staysInBounds (c : Cmd) (s : State) : StaysInBounds (runStoreReload c s) s := by
  unfold runStoreReload
  split
  · exact .of_keeps (.refl s)
  · exact endCmd_staysInBounds _ _ _ s

/-- The command that holds the port ends with the store operation. -/
theorem endStoreCmd_staysInBounds (res : Result) (b : Word) (s : State) : StaysInBounds (endStoreCmd res b s) s := by
  unfold endStoreCmd
  split
  · exact endCmd_staysInBounds _ res b s
  · exact .of_keeps (.refl s)

theorem endReload_staysInBounds (o : LoadOutcome) (s : State) : StaysInBounds (endReload o s) s :=
  (endStoreCmd_staysInBounds _ _ _).trans (.of_keeps (recordOutcome_keepsQueues o s))

theorem endStoreWord_staysInBounds (res : Result) (b : Word) (s : State) : StaysInBounds (endStoreWord res b s) s :=
  (endStoreCmd_staysInBounds res b _).trans (.of_keeps (.refl s))

theorem operationEnds_staysInBounds (word : Nat) (data : Word) (s : State) :
    StaysInBounds (operationEnds word data s) s := by
  unfold operationEnds
  split
  case h_1 =>
    split
    · exact .of_keeps (.refl s)
    · refine .of_keeps ?_
      unfold endIdentity
      dsimp only
      split <;> exact .refl s
  case h_2 =>
    split
    · exact .of_keeps (.refl s)
    · exact (StaysInBounds.of_keeps (endBoot_keepsQueues _ _)).trans (judgeList_staysInBounds _ s)
  case h_3 | h_4 => exact endStoreWord_staysInBounds _ _ s
  case h_5 =>
    split
    · exact .of_keeps (.refl s)
    · exact (endReload_staysInBounds _ _).trans (judgeList_staysInBounds _ s)
  all_goals exact .refl s

theorem opDone_staysInBounds (data : Word) (s : State) : StaysInBounds (opDone data s) s := by
  unfold opDone
  split
  · exact .ite (operationEnds_staysInBounds _ data s)
  · exact .refl s

theorem operationFails_staysInBounds (word : Nat) (s : State) : StaysInBounds (operationFails word s) s := by
  unfold operationFails
  split
  case h_1 => exact (StaysInBounds.of_keeps (endBoot_keepsQueues _ _)).trans (.of_keeps (.refl s))
  case h_2 => exact .of_keeps (endBoot_keepsQueues _ s)
  case h_3 | h_4 => exact endStoreWord_staysInBounds _ _ s
  case h_5 => exact endReload_staysInBounds _ s
  all_goals exact .refl s

theorem opFail_staysInBounds (s : State) : StaysInBounds (opFail s) s := by
  unfold opFail
  split
  · exact .ite (operationFails_staysInBounds _ s)
  · exact .refl s

/-! ### Every step -/

/-- A command but POWER_ON_RESET in its turn. -/
theorem exec_staysInBounds {i : Instr} (hi : i ≠ .powerOnReset) (s : State) :
    ∃ t, exec i s = .next t ∧ StaysInBounds t (arrive i s) := by
  cases i with
  | powerOnReset => exact absurd rfl hi
  | hostReset => exact ⟨_, rfl, staysInBounds_of_empty rfl rfl rfl⟩
  | storeOperationDone => exact ⟨_, rfl, opDone_staysInBounds _ _⟩
  | storeOperationFail => exact ⟨_, rfl, opFail_staysInBounds _⟩
  | accessError | registerWrite => exact ⟨_, rfl, access_staysInBounds _ _ _ _ _ _⟩
  | deviceReset | laneConfigWrite | laneEnable | laneDisable | linjWrite | tgcfgWrite | rpostWrite
  | routeConfigWrite | windowWrite | crbaseWrite | completionRingEnable | completionRingDisable | crconsWrite
  | bshedWrite | bstatWrite | evpop | complClear | cmpmodWrite | commandIssue =>
    exact ⟨_, rfl, hostWriteReg_staysInBounds _ _ _⟩
  | commandUnknownOp => exact ⟨_, rfl, runUnknown_staysInBounds _⟩
  | nop => exact ⟨_, rfl, runCmd_staysInBounds fun c => endCmd_staysInBounds c _ _ _⟩
  | epochLoadNow => exact ⟨_, rfl, runCmd_staysInBounds fun c => runEpochLoad_staysInBounds c _⟩
  | routeArm | routeStart | routeStop | routeAbort | routeResume | routeFlush =>
    exact ⟨_, rfl, runCmd_staysInBounds (runRouteCmd_staysInBounds fun r => by simp)⟩
  | matchWrite => exact ⟨_, rfl, runCmd_staysInBounds fun c => runMatchWrite_staysInBounds c _⟩
  | laneResync => exact ⟨_, rfl, runCmd_staysInBounds fun c => runLaneResync_staysInBounds c _⟩
  | counterSnapshot => exact ⟨_, rfl, runCmd_staysInBounds fun c => runSnapshot_staysInBounds c _⟩
  | storeRead => exact ⟨_, rfl, runCmd_staysInBounds fun c => runStoreRead_staysInBounds c _⟩
  | storeWrite => exact ⟨_, rfl, runCmd_staysInBounds fun c => runStoreWrite_staysInBounds c _⟩
  | storeLock => exact ⟨_, rfl, runCmd_staysInBounds fun c => runStoreLock_staysInBounds c _⟩
  | storeReload => exact ⟨_, rfl, runCmd_staysInBounds fun c => runStoreReload_staysInBounds c _⟩
  | quiesce => exact ⟨_, rfl, runCmd_staysInBounds fun c => runQuiesce_staysInBounds c _⟩
  | unquiesce => exact ⟨_, rfl, runCmd_staysInBounds fun c => runUnquiesce_staysInBounds c _⟩
  | descriptorFetch | bufferOpen | recordPlace | payloadWrite | lingerExpiry | bufferCloseStop
  | bufferCloseQuiesce | completionEntry | cancelEntry | backlogDrain =>
    exact ⟨_, rfl, .of_keeps (engineStep_keepsQueues (by simp))⟩
  | routeDrained | routeAbortDone | quiesced =>
    exact ⟨_, rfl, .of_keeps (engineStep_keepsQueues (by split <;> simp))⟩
  | interruptMessage => exact ⟨_, rfl, .of_keeps (by dsimp only; split <;> simp)⟩
  | _ => exact ⟨_, rfl, .of_keeps (by simp)⟩

/-- A step that runs POWER_ON_RESET leaves both queues empty and SLB at 64 (R175). -/
theorem step_powerOnReset {s t : State} {rest : List Instr} (hpending : s.pending = .powerOnReset :: rest)
    (h : step s = .next t) : t.ev.queue = [] ∧ t.cmd.fifo = [] ∧ t.store.slb = 64 := by
  unfold step at h
  rw [hpending] at h
  cases h
  exact ⟨rfl, rfl, rfl⟩

/-- Every other step, the end of a tick or a command in its turn, keeps the bounds. -/
theorem step_staysInBounds {s t : State} (hpending : ∀ rest, s.pending ≠ .powerOnReset :: rest)
    (h : step s = .next t) : StaysInBounds t s := by
  unfold step at h
  split at h
  · cases h
    exact .of_keeps (tick_keepsQueues s)
  next c rest hc =>
    have other : c ≠ .powerOnReset := fun e => hpending rest (e ▸ hc)
    obtain ⟨u, hexec, hu⟩ := exec_staysInBounds other { s with pending := rest }
    rw [h] at hexec
    cases hexec
    exact hu.trans (.of_keeps ((arrive_keepsQueues c { s with pending := rest }).trans (.refl s)))

/-- A step runs POWER_ON_RESET, or it keeps the bounds. -/
theorem step_reset_or_staysInBounds {s t : State} (h : step s = .next t) :
    (t.ev.queue = [] ∧ t.cmd.fifo = [] ∧ t.store.slb = 64) ∨ StaysInBounds t s := by
  by_cases hreset : ∃ rest, s.pending = .powerOnReset :: rest
  · obtain ⟨rest, hpending⟩ := hreset
    exact .inl (step_powerOnReset hpending h)
  · exact .inr (step_staysInBounds (fun rest hpending => hreset ⟨rest, hpending⟩) h)

/-- Settles O5: power-on reset starts with both queues empty and SLB at 64, and any other step is
`step_staysInBounds`. -/
theorem stepKeepsTheEventQueueAndFifo : Obligations.StepKeepsTheEventQueueAndFifo := by
  refine ⟨fun s t hs hstep => ?events, ⟨fun s t hs hstep => ?fifo, fun s t hs hstep => ?slb⟩,
    fun s t hpending hstep => (step_staysInBounds hpending hstep).slb⟩
  all_goals rcases step_reset_or_staysInBounds hstep with ⟨events, fifo, slb⟩ | keeps
  case events.inl => exact (eventsOk_iff_fits t).mpr (fits_of_lt (by simp [events]))
  case events.inr => exact keeps.events hs
  case fifo.inl => simp [FifoOk, fifo]
  case fifo.inr => exact keeps.fifo hs
  case slb.inl => simp [SlbOk, slb]
  case slb.inr => exact ⟨hs.1.trans keeps.slb, keeps.slb_le hs.2⟩

end Sys2Proof.Machine
end

section
/-! SUPPORT. The command port (R158 to R163, R173, R174): capture of a command, the generic checks that every row
shares, NOP and the store commands; the statements O21, O42, O43 and O44. -/

namespace Sys2Proof.Machine

/-! ### The head of the FIFO (R160, R178) -/

theorem headToStart_ready {s : State} {c : Cmd} {rest : List Cmd} (h : Ready s c rest) : headToStart s = some c := by
  obtain ⟨hfifo, hbusy, hreset⟩ := h
  simp [headToStart, hfifo, hbusy, hreset]

theorem headToStart_eq_none_iff (s : State) :
    headToStart s = none ↔ s.cmd.fifo = [] ∨ s.cmd.busy = true ∨ s.ctl.resetBusy = true := by
  unfold headToStart
  split
  next held => exact iff_of_true rfl (.inr (Bool.or_eq_true_iff.mp held))
  next free =>
    rw [Bool.or_eq_true_iff, not_or] at free
    simp [free]

/-- A command that may start is the head of the FIFO. -/
theorem head_of_headToStart {s : State} {c : Cmd} (h : headToStart s = some c) : s.cmd.fifo.head? = some c := by
  unfold headToStart at h
  split at h
  · cases h
  · exact h

/-- A row does nothing unless the command that may start has its opcode. -/
theorem runCmd_other {s : State} {op : Byte} (owner : Cmd → State → State)
    (h : ∀ c, headToStart s = some c → c.op ≠ op) : runCmd op owner s = s := by
  unfold runCmd
  split
  next c hc => exact if_neg (h c hc)
  next => rfl

/-! ### The rows of TABLE 10-1 -/

/-- Command i is the row of opcode op, and `owner` carries it out once the generic checks have passed. -/
def CommandRow (i : Instr) (op : Byte) (owner : Cmd → State → State) : Prop :=
  ∀ s₀, exec i s₀ = inTurn i (runCmd op owner) s₀

/-- Each command with an opcode is the row of that opcode. -/
theorem exists_commandRow {i : Instr} {op : Byte} (h : commandOp i = some op) : ∃ owner, CommandRow i op owner := by
  cases i with
  | nop | routeArm | routeStart | routeStop | routeAbort | routeResume | routeFlush | matchWrite | laneResync
  | counterSnapshot | epochLoadNow | storeRead | storeWrite | storeLock | storeReload | quiesce | unquiesce =>
    cases h
    exact ⟨_, fun _ => rfl⟩
  | _ => cases h

section
variable {i : Instr} {op : Byte} {owner : Cmd → State → State} {s : State} {c : Cmd} {rest : List Cmd}

/-- A command with a good target is its owner's (R161). -/
theorem CommandRow.acts (row : CommandRow i op owner) (hready : Ready s c rest) (hop : c.op = op)
    (htarget : targetOk op c.target = true) : Acts i s (owner c s) := by
  have act := acts_inTurn row s
  rwa [runCmd_ready _ hready hop, hop, if_pos htarget] at act

/-- A command with a bad target ends in the generic check, whoever its owner is (R161). -/
theorem CommandRow.acts_badTarget (row : CommandRow i op owner) (hready : Ready s c rest) (hop : c.op = op)
    (htarget : targetOk op c.target = false) : Acts i s (endCmd c .badTarget 0 s) := by
  have act := acts_inTurn row s
  rwa [runCmd_ready _ hready hop, hop, if_neg (Bool.eq_false_iff.mp htarget)] at act

/-- A row sent at another head does nothing. -/
theorem CommandRow.acts_other (row : CommandRow i op owner) (h : ∀ c, headToStart s = some c → c.op ≠ op) :
    Acts i s s := by
  have act := acts_inTurn row s
  rwa [runCmd_other _ h] at act

end

/-- The rows of TABLE 10-1, in its order. -/
def commandRows : List Instr :=
  [.nop, .routeArm, .routeStart, .routeStop, .routeAbort, .routeResume, .routeFlush, .matchWrite, .laneResync,
    .counterSnapshot, .epochLoadNow, .storeRead, .storeWrite, .storeLock, .storeReload, .quiesce, .unquiesce]

/-- Every opcode that the model knows has its row. -/
theorem exists_row_of_knownOp : ∀ op, knownOp op = true → ∃ i ∈ commandRows, commandOp i = some op := by decide

/-- An opcode that no row has is not known (R161). -/
theorem runUnknown_ready {s : State} {c : Cmd} {rest : List Cmd} (hready : Ready s c rest)
    (hop : ∀ i, commandOp i ≠ some c.op) : runUnknown s = endCmd c .unknownOp 0 s := by
  have unknown : ¬knownOp c.op = true := by
    intro known
    obtain ⟨i, -, hi⟩ := exists_row_of_knownOp c.op known
    exact hop i hi
  rw [runUnknown, headToStart_ready hready]
  exact if_neg unknown

/-- Settles O43: the rows share the command step (`exists_commandRow`), which ends a bad target and passes over a head
that is not the row's; an opcode without a row is unknown (`runUnknown_ready`). -/
theorem genericChecksEndBadCommands : Obligations.GenericChecksEndBadCommands := by
  refine ⟨fun i c rest s hrow hready htarget => ?badTarget, fun c rest s hready hop => ?unknown,
    fun i op s hrow hother => ?other⟩
  case badTarget =>
    obtain ⟨owner, row⟩ := exists_commandRow hrow
    have act := row.acts_badTarget hready rfl htarget
    rwa [endCmd_ready _ _ hready] at act
  case unknown =>
    have act : Acts .commandUnknownOp s (runUnknown s) := acts_inTurn (fun _ => rfl) s
    rwa [runUnknown_ready hready hop, endCmd_ready _ _ hready] at act
  case other =>
    obtain ⟨owner, row⟩ := exists_commandRow hrow
    refine row.acts_other fun c hc => ?_
    have started : ¬(s.cmd.fifo = [] ∨ s.cmd.busy = true ∨ s.ctl.resetBusy = true) := by
      rw [← headToStart_eq_none_iff, hc]
      exact Option.some_ne_none c
    obtain hempty | ⟨d, rest, hfifo, hd⟩ | held := hother
    · exact absurd (.inl hempty) started
    · have head := head_of_headToStart hc
      rw [hfifo] at head
      cases head
      exact hd
    · exact absurd (.inr held) started

/-! ### NOP (R163) -/

/-- Settles O44: every target is good, and the owner only ends the command. -/
theorem nopEchoesItsArgument : Obligations.NopEchoesItsArgument := by
  intro c rest s hready hop
  have row : CommandRow .nop 0x00 runNop := fun _ => rfl
  have act := row.acts hready hop rfl
  rwa [runNop, endCmd_ready _ _ hready] at act

/-! ### Capture (R158, R159) -/

/-- A captured command joins the tail of a FIFO with room. -/
theorem offerCmd_room {s : State} (c : Cmd) (h : s.cmd.fifo.length < 8) :
    offerCmd c s = { s with cmd := { s.cmd with fifo := s.cmd.fifo ++ [c] } } := if_pos h

/-- A command captured at a full FIFO is told and dropped. -/
theorem offerCmd_full {s : State} (c : Cmd) (h : 8 ≤ s.cmd.fifo.length) :
    offerCmd c s =
      post 0x92 0xFF (packWord [(c.token.toNat, 0), (c.op.toNat, 8), (c.target.toNat, 16)]) c.arg0 s :=
  if_neg (Nat.not_lt.mpr h)

/-- Settles O42: the write offers the captured command to the FIFO. -/
theorem commandIssueCapturesOrOverflows : Obligations.CommandIssueCapturesOrOverflows := by
  intro data s hload hbusy c
  have act : Acts (.commandIssue data) s (offerCmd c s) :=
    acts_hostWrite (g := .cmdissue) (fun _ => rfl) hload hbusy
  refine ⟨fun room => ?captured, fun full => ?overflow⟩
  case captured => rwa [offerCmd_room c room] at act
  case overflow => rwa [offerCmd_full c full, post_eq] at act

/-! ### The store commands (R173, R174) -/

section
variable {s : State} {c : Cmd} {rest : List Cmd}

/-- STORE_READ is refused, or holds the port while it reads its word. -/
theorem runStoreRead_ready (hready : Ready s c rest) :
    runStoreRead c s =
      if 255 < c.arg0.toNat then
        { s with ev := (post 0x14 c.target c.detail 0 s).ev, cmd := { s.cmd with fifo := rest } }
      else holdPort c.arg0.toNat .cmdRead s := by
  rw [runStoreRead, endCmd_ready _ _ hready]
  rfl

/-- STORE_WRITE is refused, or holds the port while it writes its word. -/
theorem runStoreWrite_ready (hready : Ready s c rest) :
    runStoreWrite c s =
      if 255 < c.arg0.toNat then
        { s with ev := (post 0x14 c.target c.detail 0 s).ev, cmd := { s.cmd with fifo := rest } }
      else if c.arg0.toNat < s.store.slb then
        { s with ev := (post 0x16 c.target c.detail 0 s).ev, cmd := { s.cmd with fifo := rest } }
      else holdPort c.arg0.toNat (.cmdWrite c.arg1) s := by
  rw [runStoreWrite, endCmd_ready _ _ hready, endCmd_ready _ _ hready]
  rfl

/-- The end of a STORE_LOCK with SLB at `slb`, which its detail B tells (R173). -/
def State.locked (s : State) (c : Cmd) (rest : List Cmd) (code : Byte) (slb : Nat) : State :=
  { s with
    ev := (post code c.target c.detail (BitVec.ofNat 32 slb) s).ev
    cmd := { s.cmd with fifo := rest }
    store := { s.store with slb := slb } }

/-- A STORE_LOCK that raises SLB, or leaves it, tells SLB as it then is. -/
theorem endCmd_locked (hready : Ready s c rest) (res : Result) (slb : Nat) :
    endCmd c res (BitVec.ofNat 32 slb) { s with store := { s.store with slb := slb } }
      = s.locked c rest (resultCause res) slb := by
  have raised : Ready { s with store := { s.store with slb := slb } } c rest := hready
  rw [endCmd_ready _ _ raised]
  rfl

/-- STORE_LOCK tells SLB as it is after the command in each of its four outcomes. -/
theorem runStoreLock_ready (hready : Ready s c rest) :
    runStoreLock c s =
      if 256 < c.arg0.toNat then s.locked c rest 0x14 s.store.slb
      else if c.arg0.toNat < s.store.slb then s.locked c rest 0x16 s.store.slb
      else if c.arg0.toNat = s.store.slb then s.locked c rest 0x11 s.store.slb
      else s.locked c rest 0x10 c.arg0.toNat := by
  have kept (res : Result) : endCmd c res (BitVec.ofNat 32 s.store.slb) s
      = s.locked c rest (resultCause res) s.store.slb := endCmd_locked hready res s.store.slb
  have raised := endCmd_locked hready .ok c.arg0.toNat
  rw [BitVec.ofNat_toNat, BitVec.setWidth_eq] at raised
  simp only [runStoreLock, kept, raised]
  rfl

/-- The test of STORE_RELOAD (R174). -/
theorem reloadable_iff (s : State) :
    (allLanes.all (fun n => (s.lane n).st == .off) && allDisabled s) = true
      ↔ (∀ n, (s.lane n).st = .off) ∧ ∀ r, (s.route r).st = .disabled := by
  simp only [Bool.and_eq_true, all_lanes, allDisabled_iff, beq_iff_eq]

theorem runStoreReload_idle (hlanes : ∀ n, (s.lane n).st = .off) (hroutes : ∀ r, (s.route r).st = .disabled) :
    runStoreReload c s = holdPort 64 (.reload []) s := if_pos ((reloadable_iff s).mpr ⟨hlanes, hroutes⟩)

theorem runStoreReload_active (h : (∃ n, (s.lane n).st ≠ .off) ∨ ∃ r, (s.route r).st ≠ .disabled) :
    runStoreReload c s = endCmd c .badState 0 s := by
  refine if_neg fun idle => ?_
  obtain ⟨hlanes, hroutes⟩ := (reloadable_iff s).mp idle
  obtain ⟨n, hn⟩ | ⟨r, hr⟩ := h
  · exact hn (hlanes n)
  · exact hr (hroutes r)

end

theorem readRow : CommandRow .storeRead 0x40 runStoreRead := fun _ => rfl
theorem writeRow : CommandRow .storeWrite 0x41 runStoreWrite := fun _ => rfl
theorem lockRow : CommandRow .storeLock 0x42 runStoreLock := fun _ => rfl
theorem reloadRow : CommandRow .storeReload 0x43 runStoreReload := fun _ => rfl

/-- Settles O21: each row is its owner's with target 0 (`CommandRow.acts`), and the owner's outcome is by argument 0 and
SLB, or by the states of lanes and routes. -/
theorem storeCommandsStart : Obligations.StoreCommandsStart := by
  refine ⟨fun c rest s hready htarget => ?word, fun c rest s hready hop htarget => ?lock,
    fun c rest s hready hop htarget => ⟨fun hlanes hroutes => ?reload, fun hactive => ?badState⟩⟩
  case word =>
    refine ⟨fun hop => ?read, fun hop => ?write⟩
    case read =>
      have act := readRow.acts hready hop (htarget ▸ rfl)
      rwa [runStoreRead_ready hready] at act
    case write =>
      have act := writeRow.acts hready hop (htarget ▸ rfl)
      rwa [runStoreWrite_ready hready] at act
  case lock =>
    have act := lockRow.acts hready hop (htarget ▸ rfl)
    rwa [runStoreLock_ready hready] at act
  case reload =>
    have act := reloadRow.acts hready hop (htarget ▸ rfl)
    rwa [runStoreReload_idle hlanes hroutes] at act
  case badState =>
    have act := reloadRow.acts hready hop (htarget ▸ rfl)
    rwa [runStoreReload_active hactive, endCmd_ready _ _ hready] at act

end Sys2Proof.Machine
end

section
/-! SUPPORT. Store operations that end in time (R169, R170, R173, R174) and the start of the boot load (R170, R175,
R176): the statement O19. -/

namespace Sys2Proof.Machine

/-! ### The identity phase (R170) -/

theorem checksumGood_iff (ws : List Word) : checksumGood ws = true ↔ ws.sum = 0 := by
  rw [← not_iff_not, Bool.not_eq_true, checksumGood_eq_false_iff]

/-- After word 63 the checksum decides on IDBAD and on the identity registers, and the preset phase begins (R170). -/
theorem endIdentity_eq (ws : List Word) (s : State) :
    endIdentity ws s =
      { s with
        store :=
          { s.store with
            idBad := decide (ws.sum ≠ 0)
            ids := if ws.sum = 0 then identityOf ws else s.store.ids
            op := some { word := 64, age := 0 }, job := .bootPreset [] } } := by
  unfold endIdentity
  by_cases good : ws.sum = 0
  · rw [if_pos ((checksumGood_iff ws).mpr good), if_pos good, decide_eq_false (not_not.mpr good)]
    rfl
  · rw [if_neg (mt (checksumGood_iff ws).mp good), if_neg good, decide_eq_true good]
    rfl

/-! ### An operation that ends in time (R169) -/

section
variable {s : State} {ws : List Word} {word : Nat}

/-- The identity phase reads on up to word 63. -/
theorem operationEnds_identity_reads (hjob : s.store.job = .bootIdentity ws) (hword : word < 63) (data : Word) :
    operationEnds word data s = nextRead (word + 1) (.bootIdentity (ws ++ [data])) s := by
  simp only [operationEnds, hjob]
  exact if_pos hword

/-- Word 63 is the identity phase's last. -/
theorem operationEnds_identity_last (hjob : s.store.job = .bootIdentity ws) (data : Word) :
    operationEnds 63 data s = endIdentity (ws ++ [data]) s := by
  simp only [operationEnds, hjob]
  exact if_neg (lt_irrefl 63)

/-- The preset phase of a boot load reads on up to word 127. -/
theorem operationEnds_preset_reads (hjob : s.store.job = .bootPreset ws) (hword : word < 127) (data : Word) :
    operationEnds word data s = nextRead (word + 1) (.bootPreset (ws ++ [data])) s := by
  simp only [operationEnds, hjob]
  exact if_pos hword

/-- A reload reads on up to word 127. -/
theorem operationEnds_reload_reads (hjob : s.store.job = .reload ws) (hword : word < 127) (data : Word) :
    operationEnds word data s = nextRead (word + 1) (.reload (ws ++ [data])) s := by
  simp only [operationEnds, hjob]
  exact if_pos hword

/-- A STORE_READ ends with the word read, a STORE_WRITE with the data written (R173). -/
theorem operationEnds_command {data d : Word} (hjob : s.store.job = .cmdRead ∧ d = data ∨ s.store.job = .cmdWrite d) :
    operationEnds word data s = endStoreWord .ok d s := by
  obtain ⟨hjob, rfl⟩ | hjob := hjob <;> simp only [operationEnds, hjob]

end

/-! ### The start of the boot load (R170, R175, R176) -/

theorem bootStart_due {s : State} (hload : s.ctl.loading = true) (hjob : s.store.job = .bootWait)
    (htick : s.ctl.resetTick = false) : bootStart s = nextRead 0 (.bootIdentity []) s :=
  if_pos ⟨hload, hjob, htick⟩

/-- In the tick of a power-on or host reset the boot load waits. -/
theorem bootStart_resetTick {s : State} (htick : s.ctl.resetTick = true) : bootStart s = s :=
  if_neg fun ⟨_, _, later⟩ => Bool.false_ne_true (later.symm.trans htick)

/-- Settles O19: an operation that ends in time is `opDone_eq`, and what follows is by the store controller's job. -/
theorem storeOperationDoneMovesOn : Obligations.StoreOperationDoneMovesOn := by
  refine ⟨fun data o s hop hage => ?ends, fun s hload hjob => ?starts⟩
  case ends =>
    have act : Acts (.storeOperationDone data) s (opDone data s) := acts_inTurn (fun _ => rfl) s
    rw [opDone_eq hop hage] at act
    refine ⟨fun ws hjob hword => ?identity, fun ws hjob hword => ?preset, fun ws hjob hword => ?reload,
      fun ws hjob hlast => ?identityEnds, fun c rest d hfifo hjob => ?command⟩
    case identity => rwa [operationEnds_identity_reads hjob hword] at act
    case preset => rwa [operationEnds_preset_reads hjob hword] at act
    case reload => rwa [operationEnds_reload_reads hjob hword] at act
    case identityEnds => rwa [hlast, operationEnds_identity_last hjob, endIdentity_eq] at act
    case command => rwa [operationEnds_command hjob, endStoreWord_cons hfifo] at act
  case starts =>
    have act : Acts .bootLoadStart s (bootStart s) := acts_inTurn (fun _ => rfl) s
    refine ⟨fun htick => ?due, fun htick => ?waits⟩
    case due => rwa [bootStart_due hload hjob htick] at act
    case waits => rwa [bootStart_resetTick htick] at act

end Sys2Proof.Machine
end

section
/-! SUPPORT. The quiesce (R179, R181, R183), the values of a power-on and a host reset (R175, R176) and the end of a device
reset (R178): the statements O4, O16, O18 and O48. -/

namespace Sys2Proof.Machine

/-! ### QUIESCE and UNQUIESCE (R179, R183) -/

/-- A command that leaves QUIESCING and QUIESCED with the values given ends as any other does. -/
theorem endCmd_quiesceBits {s : State} {c : Cmd} {rest : List Cmd} (hready : Ready s c rest) (res : Result) (b : Word)
    (quiescing quiesced : Bool) :
    endCmd c res b { s with ctl := { s.ctl with quiescing := quiescing, quiesced := quiesced } } =
      { s with
        ev := (post (resultCause res) c.target c.detail b s).ev
        cmd := { s.cmd with fifo := rest }
        ctl := { s.ctl with quiescing := quiescing, quiesced := quiesced } } :=
  endCmd_ready (s := { s with ctl := { s.ctl with quiescing := quiescing, quiesced := quiesced } }) res b hready

theorem quiesceRow : CommandRow .quiesce 0x50 runQuiesce := fun _ => rfl
theorem unquiesceRow : CommandRow .unquiesce 0x51 runUnquiesce := fun _ => rfl

/-! ### The end of a quiesce (R181) -/

/-- The four conditions of R181. -/
theorem atRest_iff (s : State) :
    atRest s = true ↔
      s.eng.backlog = [] ∧ ∀ r, framesFor s r = 0 ∧ settled s r = true ∧ (s.route r).read = none := by
  simp only [atRest, Bool.and_eq_true, all_routes, List.isEmpty_iff, beq_iff_eq, Option.isNone_iff_eq_none, and_assoc]

/-- A device at rest that is quiescing becomes QUIESCED at the engine's step. -/
theorem acts_quiesced_atRest {s : State} (hbusy : s.ctl.resetBusy = false) (hquiescing : s.ctl.quiescing = true)
    (hrest : atRest s = true) : Acts .quiesced s (enterQuiesced s) := by
  have act : Acts .quiesced s (engineStep (fun s => if s.ctl.quiescing && atRest s then enterQuiesced s else s) s) :=
    acts_inTurn (fun _ => rfl) s
  rwa [engineStep_idle hbusy, hquiescing, hrest] at act

/-- A device that is not at rest stays as it is, a device reset being busy or not. -/
theorem acts_quiesced_restless {s : State} (hrest : ¬atRest s = true) : Acts .quiesced s s := by
  have act : Acts .quiesced s (engineStep (fun s => if s.ctl.quiescing && atRest s then enterQuiesced s else s) s) :=
    acts_inTurn (fun _ => rfl) s
  have restless : ¬(s.ctl.quiescing && atRest s) = true := fun h => hrest (Bool.and_eq_true_iff.mp h).2
  cases hbusy : s.ctl.resetBusy with
  | true => rwa [engineStep_busy hbusy] at act
  | false => rwa [engineStep_idle hbusy, if_neg restless] at act

/-- Settles O48: the two commands by whether the device is quiescing or quiesced (`endCmd_quiesceBits`), the entry to
QUIESCED by R181's conditions (`atRest_iff`). -/
theorem quiesceAndUnquiesce : Obligations.QuiesceAndUnquiesce := by
  refine fun s => ⟨fun c rest hready htarget => ⟨fun hop => ?quiesce, fun hop => ?unquiesce⟩,
    fun hbusy hquiescing hbacklog hroutes => ?quiesced, fun hactive => ?waits⟩
  case quiesce =>
    have act := quiesceRow.acts hready hop (htarget ▸ rfl)
    rwa [runQuiesce, endCmd_ready _ _ hready, endCmd_quiesceBits hready] at act
  case unquiesce =>
    have act := unquiesceRow.acts hready hop (htarget ▸ rfl)
    rwa [runUnquiesce, endCmd_ready _ _ hready, endCmd_quiesceBits hready] at act
  case quiesced => exact acts_quiesced_atRest hbusy hquiescing ((atRest_iff s).mpr ⟨hbacklog, hroutes⟩)
  case waits =>
    refine acts_quiesced_restless fun hrest => ?_
    obtain ⟨hbacklog, hroutes⟩ := (atRest_iff s).mp hrest
    obtain ⟨r, hr⟩ | hwaiting := hactive
    · obtain ⟨frames, still, read⟩ := hroutes r
      obtain hframes | hmoving | hread := hr
      · exact hframes frames
      · exact Bool.false_ne_true (hmoving.symm.trans still)
      · exact hread read
    · exact hwaiting hbacklog

/-! ### Power-on and host reset (R175, R176) -/

@[simp] theorem reset_lane (n : Fin 4) : State.reset.lane n = Lane.reset := Vector.getElem_replicate n.isLt

@[simp] theorem reset_route (r : Fin 16) : State.reset.route r = Route.reset := Vector.getElem_replicate r.isLt

@[simp] theorem reset_trig (n : Fin 4) : State.reset.trig n = Trig.reset := Vector.getElem_replicate n.isLt

@[simp] theorem reset_entry (i : Fin 32) : State.reset.entry i = MatchEntry.reset := Vector.getElem_replicate i.isLt

/-- Settles O4: memory, fields and blocks by their own lemmas, every queue and cache because it is empty. -/
theorem resetMeetsTheInvariant : Obligations.ResetMeetsTheInvariant := by
  refine ⟨?events, ?fifo, wf_reset, ?caches, ?backlog, ?slb, reset_configOk, reset_blocksOk⟩
  case events => exact ⟨Nat.zero_le _, nofun⟩
  case fifo => exact Nat.zero_le _
  case caches =>
    intro r
    rw [reset_route]
    rfl
  case backlog => exact (backlogOk_iff _).mpr ⟨List.nodup_nil, nofun⟩
  case slb => exact ⟨le_rfl, by decide⟩

/-- Settles O16: both resets act in their turn, and each piece of state has its value in `State.reset`. -/
theorem powerOnAndHostReset : Obligations.PowerOnAndHostReset := by
  refine ⟨fun s => ⟨acts_inTurn (f := powerOnReset) (fun _ => rfl) s, acts_inTurn (f := hostReset) (fun _ => rfl) s⟩,
    ?devstat, rfl, rfl, reset_lane, rfl, rfl, rfl, rfl, rfl, rfl, rfl, rfl, fun r => ?route, fun i => ?entry,
    fun n => ?trig, rfl, rfl, rfl, rfl, rfl, rfl, rfl⟩
  case devstat => decide
  case route =>
    rw [reset_route]
    exact ⟨rfl, rfl, rfl, rfl⟩
  case entry =>
    rw [reset_entry]
    rfl
  case trig =>
    rw [reset_trig]
    rfl

/-! ### The end of a device reset (R178) -/

/-- When no read issued before the reset is left, 0xA1 tells the reads counted and each enabled lane starts. -/
theorem resetDoneAt_due {s : State} (hbusy : s.ctl.resetBusy = true) (hreads : s.ctl.oldReads = []) :
    resetDoneAt s =
      { s with
        ctl := { s.ctl with resetBusy := false }
        ev := (post 0xA1 0xFF (BitVec.ofNat 32 s.ctl.readsAtReset) (BitVec.ofNat 32 s.ctl.readTimeouts) s).ev
        lanes := mapVec Lane.restart s.lanes } := if_pos ⟨hbusy, hreads⟩

theorem resetDoneAt_waits {s : State} (hreads : s.ctl.oldReads ≠ []) : resetDoneAt s = s :=
  if_neg fun ⟨_, ended⟩ => hreads ended

/-- Settles O18: the test of RESET_DONE is whether a read issued before the reset is left. -/
theorem resetDoneWaitsForOldReads : Obligations.ResetDoneWaitsForOldReads := by
  intro s hbusy
  have act : Acts .resetDone s (resetDoneAt s) := acts_inTurn (fun _ => rfl) s
  refine ⟨fun hreads => ?ends, fun hreads => ?waits⟩
  case ends => rwa [resetDoneAt_due hbusy hreads] at act
  case waits => rwa [resetDoneAt_waits hreads] at act

end Sys2Proof.Machine
end
